-- ==== Sys2Proof/Word.lean ====
section
/-! DEFINITION. The two word types of the machine (10_state.md R20, R24; 00_scope.md R8). -/

namespace Sys2Proof

/-- A byte: a register A, X, Y, S, a memory cell, an operand byte (10_state.md R20, R46). -/
abbrev Byte := BitVec 8

/-- A 16-bit value: PC, a CPU address, the PPU's `vaddr` (10_state.md R24, R39). -/
abbrev Addr := BitVec 16

end Sys2Proof
end

