-- ==== Sys2Proof/Syntax.lean ====
section
/-! DEFINITION. The instructions: one constructor per row of spec/opcode_table.json (30_encoding.md R116, R120), carrying
exactly the operand bytes its addressing mode consumes (R100, R101). -/

namespace Sys2Proof

/-- The 151 defined opcodes. The suffix of a constructor names its addressing mode: none (implied, relative, and the one
form of JSR), `Acc`, `Imm`, `Zp`, `ZpX`, `ZpY`, `Abs`, `AbsX`, `AbsY`, `Ind`, `IndX` for (indirect,X), `IndY` for
(indirect),Y. A two-byte operand is one `Addr`, its low byte fetched first (R101, R108). -/
inductive Instr where
  -- loads, stores, transfers (40_load_store_transfer.md)
  | ldaImm (imm : Byte)
  | ldaZp (zp : Byte)
  | ldaZpX (zp : Byte)
  | ldaAbs (addr : Addr)
  | ldaAbsX (addr : Addr)
  | ldaAbsY (addr : Addr)
  | ldaIndX (zp : Byte)
  | ldaIndY (zp : Byte)
  | ldxImm (imm : Byte)
  | ldxZp (zp : Byte)
  | ldxZpY (zp : Byte)
  | ldxAbs (addr : Addr)
  | ldxAbsY (addr : Addr)
  | ldyImm (imm : Byte)
  | ldyZp (zp : Byte)
  | ldyZpX (zp : Byte)
  | ldyAbs (addr : Addr)
  | ldyAbsX (addr : Addr)
  | staZp (zp : Byte)
  | staZpX (zp : Byte)
  | staAbs (addr : Addr)
  | staAbsX (addr : Addr)
  | staAbsY (addr : Addr)
  | staIndX (zp : Byte)
  | staIndY (zp : Byte)
  | stxZp (zp : Byte)
  | stxZpY (zp : Byte)
  | stxAbs (addr : Addr)
  | styZp (zp : Byte)
  | styZpX (zp : Byte)
  | styAbs (addr : Addr)
  | tax
  | tay
  | txa
  | tya
  | tsx
  | txs
  -- arithmetic and logic (41_arithmetic_logic.md)
  | adcImm (imm : Byte)
  | adcZp (zp : Byte)
  | adcZpX (zp : Byte)
  | adcAbs (addr : Addr)
  | adcAbsX (addr : Addr)
  | adcAbsY (addr : Addr)
  | adcIndX (zp : Byte)
  | adcIndY (zp : Byte)
  | sbcImm (imm : Byte)
  | sbcZp (zp : Byte)
  | sbcZpX (zp : Byte)
  | sbcAbs (addr : Addr)
  | sbcAbsX (addr : Addr)
  | sbcAbsY (addr : Addr)
  | sbcIndX (zp : Byte)
  | sbcIndY (zp : Byte)
  | andImm (imm : Byte)
  | andZp (zp : Byte)
  | andZpX (zp : Byte)
  | andAbs (addr : Addr)
  | andAbsX (addr : Addr)
  | andAbsY (addr : Addr)
  | andIndX (zp : Byte)
  | andIndY (zp : Byte)
  | oraImm (imm : Byte)
  | oraZp (zp : Byte)
  | oraZpX (zp : Byte)
  | oraAbs (addr : Addr)
  | oraAbsX (addr : Addr)
  | oraAbsY (addr : Addr)
  | oraIndX (zp : Byte)
  | oraIndY (zp : Byte)
  | eorImm (imm : Byte)
  | eorZp (zp : Byte)
  | eorZpX (zp : Byte)
  | eorAbs (addr : Addr)
  | eorAbsX (addr : Addr)
  | eorAbsY (addr : Addr)
  | eorIndX (zp : Byte)
  | eorIndY (zp : Byte)
  | cmpImm (imm : Byte)
  | cmpZp (zp : Byte)
  | cmpZpX (zp : Byte)
  | cmpAbs (addr : Addr)
  | cmpAbsX (addr : Addr)
  | cmpAbsY (addr : Addr)
  | cmpIndX (zp : Byte)
  | cmpIndY (zp : Byte)
  | cpxImm (imm : Byte)
  | cpxZp (zp : Byte)
  | cpxAbs (addr : Addr)
  | cpyImm (imm : Byte)
  | cpyZp (zp : Byte)
  | cpyAbs (addr : Addr)
  | bitZp (zp : Byte)
  | bitAbs (addr : Addr)
  | incZp (zp : Byte)
  | incZpX (zp : Byte)
  | incAbs (addr : Addr)
  | incAbsX (addr : Addr)
  | decZp (zp : Byte)
  | decZpX (zp : Byte)
  | decAbs (addr : Addr)
  | decAbsX (addr : Addr)
  | inx
  | iny
  | dex
  | dey
  -- shifts and rotates (42_shift_rotate.md)
  | aslAcc
  | aslZp (zp : Byte)
  | aslZpX (zp : Byte)
  | aslAbs (addr : Addr)
  | aslAbsX (addr : Addr)
  | lsrAcc
  | lsrZp (zp : Byte)
  | lsrZpX (zp : Byte)
  | lsrAbs (addr : Addr)
  | lsrAbsX (addr : Addr)
  | rolAcc
  | rolZp (zp : Byte)
  | rolZpX (zp : Byte)
  | rolAbs (addr : Addr)
  | rolAbsX (addr : Addr)
  | rorAcc
  | rorZp (zp : Byte)
  | rorZpX (zp : Byte)
  | rorAbs (addr : Addr)
  | rorAbsX (addr : Addr)
  -- branches, jumps, call and return (43_control_flow.md)
  | bcc (disp : Byte)
  | bcs (disp : Byte)
  | beq (disp : Byte)
  | bmi (disp : Byte)
  | bne (disp : Byte)
  | bpl (disp : Byte)
  | bvc (disp : Byte)
  | bvs (disp : Byte)
  | jmpAbs (addr : Addr)
  | jmpInd (ptr : Addr)
  | jsr (addr : Addr)
  | rts
  -- stack and flag instructions (44_stack_and_flags.md)
  | pha
  | php
  | pla
  | plp
  | clc
  | sec
  | cli
  | sei
  | cld
  | sed
  | clv
  -- system (45_system.md)
  | brk
  | rti
  | nop
  deriving DecidableEq, Repr

end Sys2Proof
end

