-- ==== Sys2Proof/WellFormed.lean ====
section
/-! DEFINITION. Which instructions are well formed (30_encoding.md R122). -/

namespace Sys2Proof

/-- "Operand bytes have no reserved values: every value 0x00 to 0xFF of every operand byte is legal" (30_encoding.md R122),
and the operand of each constructor has exactly its mode's width, so there is no check to make: every term of `Instr` is an
instruction of the machine. The data that can be ill formed on this hardware (a memory, a cartridge) has its own checks
beside its type: `Machine.Memory.wf` and `Machine.Cartridge.wf`. -/
def Instr.wellFormed (_ : Instr) : Bool := true

end Sys2Proof
end

