-- ==== Sys2Proof/Decode.lean ====
section
/-! DEFINITION. The opcode table, the decoder (total, rejecting by name) and the encoder (30_encoding.md R100, R101, R116,
R117, R120, R121; opcode_table.json). -/

namespace Sys2Proof

/-- The high byte `v[15:8]` of a 16-bit value (00_scope.md R8). -/
def hiByte (v : Addr) : Byte := v.extractLsb' 8 8

/-- The low byte `v[7:0]` of a 16-bit value (00_scope.md R8). -/
def loByte (v : Addr) : Byte := v.extractLsb' 0 8

/-- `hi : lo`, the 16-bit value whose high byte is `hi` and whose low byte is `lo` (00_scope.md R8). -/
def addrOf (hi lo : Byte) : Addr := hi ++ lo

/-- The thirteen addressing modes (30_encoding.md R102 to R114). -/
inductive Mode where
  | implied | accumulator | immediate | zeroPage | zeroPageX | zeroPageY | absolute | absoluteX | absoluteY
  | indirect | indexedIndirect | indirectIndexed | relative
  deriving DecidableEq, Repr

/-- How many operand bytes a mode consumes (30_encoding.md R100, R101). -/
def Mode.operandBytes : Mode → Nat
  | .implied => 0
  | .accumulator => 0
  | .immediate => 1
  | .zeroPage => 1
  | .zeroPageX => 1
  | .zeroPageY => 1
  | .indexedIndirect => 1
  | .indirectIndexed => 1
  | .relative => 1
  | .absolute => 2
  | .absoluteX => 2
  | .absoluteY => 2
  | .indirect => 2

/-- One row of the opcode table: "(handler, base-cycle-cost, page-cross-penalty-eligible)" by opcode byte
(10_state.md R32, 30_encoding.md R116); the handler is the mnemonic with its one mode. -/
structure OpRow where
  opcode      : Byte
  mnemonic    : String
  mode        : Mode
  cycles      : Nat
  pagePenalty : Bool
  deriving DecidableEq, Repr

/-- The rows of opcodes 0x00 to 0x0F (opcode_table.json). -/
def opcodeRows0 : List OpRow :=
  [⟨0x00#8, "BRK", .implied, 7, false⟩,
   ⟨0x01#8, "ORA", .indexedIndirect, 6, false⟩,
   ⟨0x05#8, "ORA", .zeroPage, 3, false⟩,
   ⟨0x06#8, "ASL", .zeroPage, 5, false⟩,
   ⟨0x08#8, "PHP", .implied, 3, false⟩,
   ⟨0x09#8, "ORA", .immediate, 2, false⟩,
   ⟨0x0A#8, "ASL", .accumulator, 2, false⟩,
   ⟨0x0D#8, "ORA", .absolute, 4, false⟩,
   ⟨0x0E#8, "ASL", .absolute, 6, false⟩]

/-- The rows of opcodes 0x10 to 0x1F (opcode_table.json). -/
def opcodeRows1 : List OpRow :=
  [⟨0x10#8, "BPL", .relative, 2, false⟩,
   ⟨0x11#8, "ORA", .indirectIndexed, 5, true⟩,
   ⟨0x15#8, "ORA", .zeroPageX, 4, false⟩,
   ⟨0x16#8, "ASL", .zeroPageX, 6, false⟩,
   ⟨0x18#8, "CLC", .implied, 2, false⟩,
   ⟨0x19#8, "ORA", .absoluteY, 4, true⟩,
   ⟨0x1D#8, "ORA", .absoluteX, 4, true⟩,
   ⟨0x1E#8, "ASL", .absoluteX, 7, false⟩]

/-- The rows of opcodes 0x20 to 0x2F (opcode_table.json). -/
def opcodeRows2 : List OpRow :=
  [⟨0x20#8, "JSR", .absolute, 6, false⟩,
   ⟨0x21#8, "AND", .indexedIndirect, 6, false⟩,
   ⟨0x24#8, "BIT", .zeroPage, 3, false⟩,
   ⟨0x25#8, "AND", .zeroPage, 3, false⟩,
   ⟨0x26#8, "ROL", .zeroPage, 5, false⟩,
   ⟨0x28#8, "PLP", .implied, 4, false⟩,
   ⟨0x29#8, "AND", .immediate, 2, false⟩,
   ⟨0x2A#8, "ROL", .accumulator, 2, false⟩,
   ⟨0x2C#8, "BIT", .absolute, 4, false⟩,
   ⟨0x2D#8, "AND", .absolute, 4, false⟩,
   ⟨0x2E#8, "ROL", .absolute, 6, false⟩]

/-- The rows of opcodes 0x30 to 0x3F (opcode_table.json). -/
def opcodeRows3 : List OpRow :=
  [⟨0x30#8, "BMI", .relative, 2, false⟩,
   ⟨0x31#8, "AND", .indirectIndexed, 5, true⟩,
   ⟨0x35#8, "AND", .zeroPageX, 4, false⟩,
   ⟨0x36#8, "ROL", .zeroPageX, 6, false⟩,
   ⟨0x38#8, "SEC", .implied, 2, false⟩,
   ⟨0x39#8, "AND", .absoluteY, 4, true⟩,
   ⟨0x3D#8, "AND", .absoluteX, 4, true⟩,
   ⟨0x3E#8, "ROL", .absoluteX, 7, false⟩]

/-- The rows of opcodes 0x40 to 0x4F (opcode_table.json). -/
def opcodeRows4 : List OpRow :=
  [⟨0x40#8, "RTI", .implied, 6, false⟩,
   ⟨0x41#8, "EOR", .indexedIndirect, 6, false⟩,
   ⟨0x45#8, "EOR", .zeroPage, 3, false⟩,
   ⟨0x46#8, "LSR", .zeroPage, 5, false⟩,
   ⟨0x48#8, "PHA", .implied, 3, false⟩,
   ⟨0x49#8, "EOR", .immediate, 2, false⟩,
   ⟨0x4A#8, "LSR", .accumulator, 2, false⟩,
   ⟨0x4C#8, "JMP", .absolute, 3, false⟩,
   ⟨0x4D#8, "EOR", .absolute, 4, false⟩,
   ⟨0x4E#8, "LSR", .absolute, 6, false⟩]

/-- The rows of opcodes 0x50 to 0x5F (opcode_table.json). -/
def opcodeRows5 : List OpRow :=
  [⟨0x50#8, "BVC", .relative, 2, false⟩,
   ⟨0x51#8, "EOR", .indirectIndexed, 5, true⟩,
   ⟨0x55#8, "EOR", .zeroPageX, 4, false⟩,
   ⟨0x56#8, "LSR", .zeroPageX, 6, false⟩,
   ⟨0x58#8, "CLI", .implied, 2, false⟩,
   ⟨0x59#8, "EOR", .absoluteY, 4, true⟩,
   ⟨0x5D#8, "EOR", .absoluteX, 4, true⟩,
   ⟨0x5E#8, "LSR", .absoluteX, 7, false⟩]

/-- The rows of opcodes 0x60 to 0x6F (opcode_table.json). -/
def opcodeRows6 : List OpRow :=
  [⟨0x60#8, "RTS", .implied, 6, false⟩,
   ⟨0x61#8, "ADC", .indexedIndirect, 6, false⟩,
   ⟨0x65#8, "ADC", .zeroPage, 3, false⟩,
   ⟨0x66#8, "ROR", .zeroPage, 5, false⟩,
   ⟨0x68#8, "PLA", .implied, 4, false⟩,
   ⟨0x69#8, "ADC", .immediate, 2, false⟩,
   ⟨0x6A#8, "ROR", .accumulator, 2, false⟩,
   ⟨0x6C#8, "JMP", .indirect, 5, false⟩,
   ⟨0x6D#8, "ADC", .absolute, 4, false⟩,
   ⟨0x6E#8, "ROR", .absolute, 6, false⟩]

/-- The rows of opcodes 0x70 to 0x7F (opcode_table.json). -/
def opcodeRows7 : List OpRow :=
  [⟨0x70#8, "BVS", .relative, 2, false⟩,
   ⟨0x71#8, "ADC", .indirectIndexed, 5, true⟩,
   ⟨0x75#8, "ADC", .zeroPageX, 4, false⟩,
   ⟨0x76#8, "ROR", .zeroPageX, 6, false⟩,
   ⟨0x78#8, "SEI", .implied, 2, false⟩,
   ⟨0x79#8, "ADC", .absoluteY, 4, true⟩,
   ⟨0x7D#8, "ADC", .absoluteX, 4, true⟩,
   ⟨0x7E#8, "ROR", .absoluteX, 7, false⟩]

/-- The rows of opcodes 0x80 to 0x8F (opcode_table.json). -/
def opcodeRows8 : List OpRow :=
  [⟨0x81#8, "STA", .indexedIndirect, 6, false⟩,
   ⟨0x84#8, "STY", .zeroPage, 3, false⟩,
   ⟨0x85#8, "STA", .zeroPage, 3, false⟩,
   ⟨0x86#8, "STX", .zeroPage, 3, false⟩,
   ⟨0x88#8, "DEY", .implied, 2, false⟩,
   ⟨0x8A#8, "TXA", .implied, 2, false⟩,
   ⟨0x8C#8, "STY", .absolute, 4, false⟩,
   ⟨0x8D#8, "STA", .absolute, 4, false⟩,
   ⟨0x8E#8, "STX", .absolute, 4, false⟩]

/-- The rows of opcodes 0x90 to 0x9F (opcode_table.json). -/
def opcodeRows9 : List OpRow :=
  [⟨0x90#8, "BCC", .relative, 2, false⟩,
   ⟨0x91#8, "STA", .indirectIndexed, 6, false⟩,
   ⟨0x94#8, "STY", .zeroPageX, 4, false⟩,
   ⟨0x95#8, "STA", .zeroPageX, 4, false⟩,
   ⟨0x96#8, "STX", .zeroPageY, 4, false⟩,
   ⟨0x98#8, "TYA", .implied, 2, false⟩,
   ⟨0x99#8, "STA", .absoluteY, 5, false⟩,
   ⟨0x9A#8, "TXS", .implied, 2, false⟩,
   ⟨0x9D#8, "STA", .absoluteX, 5, false⟩]

/-- The rows of opcodes 0xA0 to 0xAF (opcode_table.json). -/
def opcodeRowsA : List OpRow :=
  [⟨0xA0#8, "LDY", .immediate, 2, false⟩,
   ⟨0xA1#8, "LDA", .indexedIndirect, 6, false⟩,
   ⟨0xA2#8, "LDX", .immediate, 2, false⟩,
   ⟨0xA4#8, "LDY", .zeroPage, 3, false⟩,
   ⟨0xA5#8, "LDA", .zeroPage, 3, false⟩,
   ⟨0xA6#8, "LDX", .zeroPage, 3, false⟩,
   ⟨0xA8#8, "TAY", .implied, 2, false⟩,
   ⟨0xA9#8, "LDA", .immediate, 2, false⟩,
   ⟨0xAA#8, "TAX", .implied, 2, false⟩,
   ⟨0xAC#8, "LDY", .absolute, 4, false⟩,
   ⟨0xAD#8, "LDA", .absolute, 4, false⟩,
   ⟨0xAE#8, "LDX", .absolute, 4, false⟩]

/-- The rows of opcodes 0xB0 to 0xBF (opcode_table.json). -/
def opcodeRowsB : List OpRow :=
  [⟨0xB0#8, "BCS", .relative, 2, false⟩,
   ⟨0xB1#8, "LDA", .indirectIndexed, 5, true⟩,
   ⟨0xB4#8, "LDY", .zeroPageX, 4, false⟩,
   ⟨0xB5#8, "LDA", .zeroPageX, 4, false⟩,
   ⟨0xB6#8, "LDX", .zeroPageY, 4, false⟩,
   ⟨0xB8#8, "CLV", .implied, 2, false⟩,
   ⟨0xB9#8, "LDA", .absoluteY, 4, true⟩,
   ⟨0xBA#8, "TSX", .implied, 2, false⟩,
   ⟨0xBC#8, "LDY", .absoluteX, 4, true⟩,
   ⟨0xBD#8, "LDA", .absoluteX, 4, true⟩,
   ⟨0xBE#8, "LDX", .absoluteY, 4, true⟩]

/-- The rows of opcodes 0xC0 to 0xCF (opcode_table.json). -/
def opcodeRowsC : List OpRow :=
  [⟨0xC0#8, "CPY", .immediate, 2, false⟩,
   ⟨0xC1#8, "CMP", .indexedIndirect, 6, false⟩,
   ⟨0xC4#8, "CPY", .zeroPage, 3, false⟩,
   ⟨0xC5#8, "CMP", .zeroPage, 3, false⟩,
   ⟨0xC6#8, "DEC", .zeroPage, 5, false⟩,
   ⟨0xC8#8, "INY", .implied, 2, false⟩,
   ⟨0xC9#8, "CMP", .immediate, 2, false⟩,
   ⟨0xCA#8, "DEX", .implied, 2, false⟩,
   ⟨0xCC#8, "CPY", .absolute, 4, false⟩,
   ⟨0xCD#8, "CMP", .absolute, 4, false⟩,
   ⟨0xCE#8, "DEC", .absolute, 6, false⟩]

/-- The rows of opcodes 0xD0 to 0xDF (opcode_table.json). -/
def opcodeRowsD : List OpRow :=
  [⟨0xD0#8, "BNE", .relative, 2, false⟩,
   ⟨0xD1#8, "CMP", .indirectIndexed, 5, true⟩,
   ⟨0xD5#8, "CMP", .zeroPageX, 4, false⟩,
   ⟨0xD6#8, "DEC", .zeroPageX, 6, false⟩,
   ⟨0xD8#8, "CLD", .implied, 2, false⟩,
   ⟨0xD9#8, "CMP", .absoluteY, 4, true⟩,
   ⟨0xDD#8, "CMP", .absoluteX, 4, true⟩,
   ⟨0xDE#8, "DEC", .absoluteX, 7, false⟩]

/-- The rows of opcodes 0xE0 to 0xEF (opcode_table.json). -/
def opcodeRowsE : List OpRow :=
  [⟨0xE0#8, "CPX", .immediate, 2, false⟩,
   ⟨0xE1#8, "SBC", .indexedIndirect, 6, false⟩,
   ⟨0xE4#8, "CPX", .zeroPage, 3, false⟩,
   ⟨0xE5#8, "SBC", .zeroPage, 3, false⟩,
   ⟨0xE6#8, "INC", .zeroPage, 5, false⟩,
   ⟨0xE8#8, "INX", .implied, 2, false⟩,
   ⟨0xE9#8, "SBC", .immediate, 2, false⟩,
   ⟨0xEA#8, "NOP", .implied, 2, false⟩,
   ⟨0xEC#8, "CPX", .absolute, 4, false⟩,
   ⟨0xED#8, "SBC", .absolute, 4, false⟩,
   ⟨0xEE#8, "INC", .absolute, 6, false⟩]

/-- The rows of opcodes 0xF0 to 0xFF (opcode_table.json). -/
def opcodeRowsF : List OpRow :=
  [⟨0xF0#8, "BEQ", .relative, 2, false⟩,
   ⟨0xF1#8, "SBC", .indirectIndexed, 5, true⟩,
   ⟨0xF5#8, "SBC", .zeroPageX, 4, false⟩,
   ⟨0xF6#8, "INC", .zeroPageX, 6, false⟩,
   ⟨0xF8#8, "SED", .implied, 2, false⟩,
   ⟨0xF9#8, "SBC", .absoluteY, 4, true⟩,
   ⟨0xFD#8, "SBC", .absoluteX, 4, true⟩,
   ⟨0xFE#8, "INC", .absoluteX, 7, false⟩]

/-- `OpcodeTable`, the 151 rows (30_encoding.md R116). -/
def opcodeTable : List OpRow :=
  opcodeRows0 ++ opcodeRows1 ++ opcodeRows2 ++ opcodeRows3 ++ opcodeRows4 ++ opcodeRows5 ++ opcodeRows6 ++ opcodeRows7
  ++ opcodeRows8 ++ opcodeRows9 ++ opcodeRowsA ++ opcodeRowsB ++ opcodeRowsC ++ opcodeRowsD ++ opcodeRowsE ++ opcodeRowsF

/-- The entry of an opcode byte, absent for the 105 undefined bytes (30_encoding.md R116, R117). -/
def opcodeRow (op : Byte) : Option OpRow := opcodeTable.find? (fun r => r.opcode == op)

/-- `DEFINED_OPCODES`: whether the opcode byte has a table entry (00_scope.md R7). -/
def definedOpcode (op : Byte) : Bool := (opcodeRow op).isSome

/-- `PENALTY_ELIGIBLE(op)`, the table's column `page_penalty` (00_scope.md R7, 30_encoding.md R115). -/
def penaltyEligible (op : Byte) : Bool := ((opcodeRow op).map OpRow.pagePenalty).getD false

/-- The instructions of opcodes 0x00 to 0x0F, with first operand byte `lo` and second `hi` (R121). -/
def decodeRow0 (op : Nat) (lo hi : Byte) : Option Instr :=
  match op with
  | 0x00 => some .brk
  | 0x01 => some (.oraIndX lo)
  | 0x05 => some (.oraZp lo)
  | 0x06 => some (.aslZp lo)
  | 0x08 => some .php
  | 0x09 => some (.oraImm lo)
  | 0x0A => some .aslAcc
  | 0x0D => some (.oraAbs (addrOf hi lo))
  | 0x0E => some (.aslAbs (addrOf hi lo))
  | _ => none

/-- The instructions of opcodes 0x10 to 0x1F, with first operand byte `lo` and second `hi` (R121). -/
def decodeRow1 (op : Nat) (lo hi : Byte) : Option Instr :=
  match op with
  | 0x10 => some (.bpl lo)
  | 0x11 => some (.oraIndY lo)
  | 0x15 => some (.oraZpX lo)
  | 0x16 => some (.aslZpX lo)
  | 0x18 => some .clc
  | 0x19 => some (.oraAbsY (addrOf hi lo))
  | 0x1D => some (.oraAbsX (addrOf hi lo))
  | 0x1E => some (.aslAbsX (addrOf hi lo))
  | _ => none

/-- The instructions of opcodes 0x20 to 0x2F, with first operand byte `lo` and second `hi` (R121). -/
def decodeRow2 (op : Nat) (lo hi : Byte) : Option Instr :=
  match op with
  | 0x20 => some (.jsr (addrOf hi lo))
  | 0x21 => some (.andIndX lo)
  | 0x24 => some (.bitZp lo)
  | 0x25 => some (.andZp lo)
  | 0x26 => some (.rolZp lo)
  | 0x28 => some .plp
  | 0x29 => some (.andImm lo)
  | 0x2A => some .rolAcc
  | 0x2C => some (.bitAbs (addrOf hi lo))
  | 0x2D => some (.andAbs (addrOf hi lo))
  | 0x2E => some (.rolAbs (addrOf hi lo))
  | _ => none

/-- The instructions of opcodes 0x30 to 0x3F, with first operand byte `lo` and second `hi` (R121). -/
def decodeRow3 (op : Nat) (lo hi : Byte) : Option Instr :=
  match op with
  | 0x30 => some (.bmi lo)
  | 0x31 => some (.andIndY lo)
  | 0x35 => some (.andZpX lo)
  | 0x36 => some (.rolZpX lo)
  | 0x38 => some .sec
  | 0x39 => some (.andAbsY (addrOf hi lo))
  | 0x3D => some (.andAbsX (addrOf hi lo))
  | 0x3E => some (.rolAbsX (addrOf hi lo))
  | _ => none

/-- The instructions of opcodes 0x40 to 0x4F, with first operand byte `lo` and second `hi` (R121). -/
def decodeRow4 (op : Nat) (lo hi : Byte) : Option Instr :=
  match op with
  | 0x40 => some .rti
  | 0x41 => some (.eorIndX lo)
  | 0x45 => some (.eorZp lo)
  | 0x46 => some (.lsrZp lo)
  | 0x48 => some .pha
  | 0x49 => some (.eorImm lo)
  | 0x4A => some .lsrAcc
  | 0x4C => some (.jmpAbs (addrOf hi lo))
  | 0x4D => some (.eorAbs (addrOf hi lo))
  | 0x4E => some (.lsrAbs (addrOf hi lo))
  | _ => none

/-- The instructions of opcodes 0x50 to 0x5F, with first operand byte `lo` and second `hi` (R121). -/
def decodeRow5 (op : Nat) (lo hi : Byte) : Option Instr :=
  match op with
  | 0x50 => some (.bvc lo)
  | 0x51 => some (.eorIndY lo)
  | 0x55 => some (.eorZpX lo)
  | 0x56 => some (.lsrZpX lo)
  | 0x58 => some .cli
  | 0x59 => some (.eorAbsY (addrOf hi lo))
  | 0x5D => some (.eorAbsX (addrOf hi lo))
  | 0x5E => some (.lsrAbsX (addrOf hi lo))
  | _ => none

/-- The instructions of opcodes 0x60 to 0x6F, with first operand byte `lo` and second `hi` (R121). -/
def decodeRow6 (op : Nat) (lo hi : Byte) : Option Instr :=
  match op with
  | 0x60 => some .rts
  | 0x61 => some (.adcIndX lo)
  | 0x65 => some (.adcZp lo)
  | 0x66 => some (.rorZp lo)
  | 0x68 => some .pla
  | 0x69 => some (.adcImm lo)
  | 0x6A => some .rorAcc
  | 0x6C => some (.jmpInd (addrOf hi lo))
  | 0x6D => some (.adcAbs (addrOf hi lo))
  | 0x6E => some (.rorAbs (addrOf hi lo))
  | _ => none

/-- The instructions of opcodes 0x70 to 0x7F, with first operand byte `lo` and second `hi` (R121). -/
def decodeRow7 (op : Nat) (lo hi : Byte) : Option Instr :=
  match op with
  | 0x70 => some (.bvs lo)
  | 0x71 => some (.adcIndY lo)
  | 0x75 => some (.adcZpX lo)
  | 0x76 => some (.rorZpX lo)
  | 0x78 => some .sei
  | 0x79 => some (.adcAbsY (addrOf hi lo))
  | 0x7D => some (.adcAbsX (addrOf hi lo))
  | 0x7E => some (.rorAbsX (addrOf hi lo))
  | _ => none

/-- The instructions of opcodes 0x80 to 0x8F, with first operand byte `lo` and second `hi` (R121). -/
def decodeRow8 (op : Nat) (lo hi : Byte) : Option Instr :=
  match op with
  | 0x81 => some (.staIndX lo)
  | 0x84 => some (.styZp lo)
  | 0x85 => some (.staZp lo)
  | 0x86 => some (.stxZp lo)
  | 0x88 => some .dey
  | 0x8A => some .txa
  | 0x8C => some (.styAbs (addrOf hi lo))
  | 0x8D => some (.staAbs (addrOf hi lo))
  | 0x8E => some (.stxAbs (addrOf hi lo))
  | _ => none

/-- The instructions of opcodes 0x90 to 0x9F, with first operand byte `lo` and second `hi` (R121). -/
def decodeRow9 (op : Nat) (lo hi : Byte) : Option Instr :=
  match op with
  | 0x90 => some (.bcc lo)
  | 0x91 => some (.staIndY lo)
  | 0x94 => some (.styZpX lo)
  | 0x95 => some (.staZpX lo)
  | 0x96 => some (.stxZpY lo)
  | 0x98 => some .tya
  | 0x99 => some (.staAbsY (addrOf hi lo))
  | 0x9A => some .txs
  | 0x9D => some (.staAbsX (addrOf hi lo))
  | _ => none

/-- The instructions of opcodes 0xA0 to 0xAF, with first operand byte `lo` and second `hi` (R121). -/
def decodeRowA (op : Nat) (lo hi : Byte) : Option Instr :=
  match op with
  | 0xA0 => some (.ldyImm lo)
  | 0xA1 => some (.ldaIndX lo)
  | 0xA2 => some (.ldxImm lo)
  | 0xA4 => some (.ldyZp lo)
  | 0xA5 => some (.ldaZp lo)
  | 0xA6 => some (.ldxZp lo)
  | 0xA8 => some .tay
  | 0xA9 => some (.ldaImm lo)
  | 0xAA => some .tax
  | 0xAC => some (.ldyAbs (addrOf hi lo))
  | 0xAD => some (.ldaAbs (addrOf hi lo))
  | 0xAE => some (.ldxAbs (addrOf hi lo))
  | _ => none

/-- The instructions of opcodes 0xB0 to 0xBF, with first operand byte `lo` and second `hi` (R121). -/
def decodeRowB (op : Nat) (lo hi : Byte) : Option Instr :=
  match op with
  | 0xB0 => some (.bcs lo)
  | 0xB1 => some (.ldaIndY lo)
  | 0xB4 => some (.ldyZpX lo)
  | 0xB5 => some (.ldaZpX lo)
  | 0xB6 => some (.ldxZpY lo)
  | 0xB8 => some .clv
  | 0xB9 => some (.ldaAbsY (addrOf hi lo))
  | 0xBA => some .tsx
  | 0xBC => some (.ldyAbsX (addrOf hi lo))
  | 0xBD => some (.ldaAbsX (addrOf hi lo))
  | 0xBE => some (.ldxAbsY (addrOf hi lo))
  | _ => none

/-- The instructions of opcodes 0xC0 to 0xCF, with first operand byte `lo` and second `hi` (R121). -/
def decodeRowC (op : Nat) (lo hi : Byte) : Option Instr :=
  match op with
  | 0xC0 => some (.cpyImm lo)
  | 0xC1 => some (.cmpIndX lo)
  | 0xC4 => some (.cpyZp lo)
  | 0xC5 => some (.cmpZp lo)
  | 0xC6 => some (.decZp lo)
  | 0xC8 => some .iny
  | 0xC9 => some (.cmpImm lo)
  | 0xCA => some .dex
  | 0xCC => some (.cpyAbs (addrOf hi lo))
  | 0xCD => some (.cmpAbs (addrOf hi lo))
  | 0xCE => some (.decAbs (addrOf hi lo))
  | _ => none

/-- The instructions of opcodes 0xD0 to 0xDF, with first operand byte `lo` and second `hi` (R121). -/
def decodeRowD (op : Nat) (lo hi : Byte) : Option Instr :=
  match op with
  | 0xD0 => some (.bne lo)
  | 0xD1 => some (.cmpIndY lo)
  | 0xD5 => some (.cmpZpX lo)
  | 0xD6 => some (.decZpX lo)
  | 0xD8 => some .cld
  | 0xD9 => some (.cmpAbsY (addrOf hi lo))
  | 0xDD => some (.cmpAbsX (addrOf hi lo))
  | 0xDE => some (.decAbsX (addrOf hi lo))
  | _ => none

/-- The instructions of opcodes 0xE0 to 0xEF, with first operand byte `lo` and second `hi` (R121). -/
def decodeRowE (op : Nat) (lo hi : Byte) : Option Instr :=
  match op with
  | 0xE0 => some (.cpxImm lo)
  | 0xE1 => some (.sbcIndX lo)
  | 0xE4 => some (.cpxZp lo)
  | 0xE5 => some (.sbcZp lo)
  | 0xE6 => some (.incZp lo)
  | 0xE8 => some .inx
  | 0xE9 => some (.sbcImm lo)
  | 0xEA => some .nop
  | 0xEC => some (.cpxAbs (addrOf hi lo))
  | 0xED => some (.sbcAbs (addrOf hi lo))
  | 0xEE => some (.incAbs (addrOf hi lo))
  | _ => none

/-- The instructions of opcodes 0xF0 to 0xFF, with first operand byte `lo` and second `hi` (R121). -/
def decodeRowF (op : Nat) (lo hi : Byte) : Option Instr :=
  match op with
  | 0xF0 => some (.beq lo)
  | 0xF1 => some (.sbcIndY lo)
  | 0xF5 => some (.sbcZpX lo)
  | 0xF6 => some (.incZpX lo)
  | 0xF8 => some .sed
  | 0xF9 => some (.sbcAbsY (addrOf hi lo))
  | 0xFD => some (.sbcAbsX (addrOf hi lo))
  | 0xFE => some (.incAbsX (addrOf hi lo))
  | _ => none

/-- The instruction with opcode byte `op`, first operand byte `lo` and second operand byte `hi`, where the mode has them;
none for an undefined opcode (30_encoding.md R117, R121). -/
def decodeOp (op lo hi : Byte) : Option Instr :=
  match op.toNat / 16 with
  | 0 => decodeRow0 op.toNat lo hi
  | 1 => decodeRow1 op.toNat lo hi
  | 2 => decodeRow2 op.toNat lo hi
  | 3 => decodeRow3 op.toNat lo hi
  | 4 => decodeRow4 op.toNat lo hi
  | 5 => decodeRow5 op.toNat lo hi
  | 6 => decodeRow6 op.toNat lo hi
  | 7 => decodeRow7 op.toNat lo hi
  | 8 => decodeRow8 op.toNat lo hi
  | 9 => decodeRow9 op.toNat lo hi
  | 10 => decodeRowA op.toNat lo hi
  | 11 => decodeRowB op.toNat lo hi
  | 12 => decodeRowC op.toNat lo hi
  | 13 => decodeRowD op.toNat lo hi
  | 14 => decodeRowE op.toNat lo hi
  | _ => decodeRowF op.toNat lo hi

/-- Why some bytes are no instruction. -/
inductive DecodeError where
  /-- There is no opcode byte. -/
  | noBytes
  /-- The opcode byte has no table entry (30_encoding.md R117). -/
  | undefinedOpcode (op : Byte)
  /-- The operand bytes the opcode's mode consumes are not all there. -/
  | truncated (op : Byte)
  deriving DecidableEq, Repr

/-- The decoder: the first instruction of some bytes and the bytes after it (30_encoding.md R100, R101, R116). -/
def decode : List Byte → Except DecodeError (Instr × List Byte)
  | [] => .error .noBytes
  | op :: rest =>
    match opcodeRow op with
    | none => .error (.undefinedOpcode op)
    | some row =>
      let operands := rest.take row.mode.operandBytes
      if operands.length = row.mode.operandBytes then
        match decodeOp op (operands.getD 0 0#8) (operands.getD 1 0#8) with
        | none => .error (.undefinedOpcode op)
        | some i => .ok (i, rest.drop row.mode.operandBytes)
      else .error (.truncated op)

/-- The opcode byte of an instruction (30_encoding.md R120). -/
def Instr.opcode : Instr → Byte
  | .ldaImm _ => 0xA9#8
  | .ldaZp _ => 0xA5#8
  | .ldaZpX _ => 0xB5#8
  | .ldaAbs _ => 0xAD#8
  | .ldaAbsX _ => 0xBD#8
  | .ldaAbsY _ => 0xB9#8
  | .ldaIndX _ => 0xA1#8
  | .ldaIndY _ => 0xB1#8
  | .ldxImm _ => 0xA2#8
  | .ldxZp _ => 0xA6#8
  | .ldxZpY _ => 0xB6#8
  | .ldxAbs _ => 0xAE#8
  | .ldxAbsY _ => 0xBE#8
  | .ldyImm _ => 0xA0#8
  | .ldyZp _ => 0xA4#8
  | .ldyZpX _ => 0xB4#8
  | .ldyAbs _ => 0xAC#8
  | .ldyAbsX _ => 0xBC#8
  | .staZp _ => 0x85#8
  | .staZpX _ => 0x95#8
  | .staAbs _ => 0x8D#8
  | .staAbsX _ => 0x9D#8
  | .staAbsY _ => 0x99#8
  | .staIndX _ => 0x81#8
  | .staIndY _ => 0x91#8
  | .stxZp _ => 0x86#8
  | .stxZpY _ => 0x96#8
  | .stxAbs _ => 0x8E#8
  | .styZp _ => 0x84#8
  | .styZpX _ => 0x94#8
  | .styAbs _ => 0x8C#8
  | .tax => 0xAA#8
  | .tay => 0xA8#8
  | .txa => 0x8A#8
  | .tya => 0x98#8
  | .tsx => 0xBA#8
  | .txs => 0x9A#8
  | .adcImm _ => 0x69#8
  | .adcZp _ => 0x65#8
  | .adcZpX _ => 0x75#8
  | .adcAbs _ => 0x6D#8
  | .adcAbsX _ => 0x7D#8
  | .adcAbsY _ => 0x79#8
  | .adcIndX _ => 0x61#8
  | .adcIndY _ => 0x71#8
  | .sbcImm _ => 0xE9#8
  | .sbcZp _ => 0xE5#8
  | .sbcZpX _ => 0xF5#8
  | .sbcAbs _ => 0xED#8
  | .sbcAbsX _ => 0xFD#8
  | .sbcAbsY _ => 0xF9#8
  | .sbcIndX _ => 0xE1#8
  | .sbcIndY _ => 0xF1#8
  | .andImm _ => 0x29#8
  | .andZp _ => 0x25#8
  | .andZpX _ => 0x35#8
  | .andAbs _ => 0x2D#8
  | .andAbsX _ => 0x3D#8
  | .andAbsY _ => 0x39#8
  | .andIndX _ => 0x21#8
  | .andIndY _ => 0x31#8
  | .oraImm _ => 0x09#8
  | .oraZp _ => 0x05#8
  | .oraZpX _ => 0x15#8
  | .oraAbs _ => 0x0D#8
  | .oraAbsX _ => 0x1D#8
  | .oraAbsY _ => 0x19#8
  | .oraIndX _ => 0x01#8
  | .oraIndY _ => 0x11#8
  | .eorImm _ => 0x49#8
  | .eorZp _ => 0x45#8
  | .eorZpX _ => 0x55#8
  | .eorAbs _ => 0x4D#8
  | .eorAbsX _ => 0x5D#8
  | .eorAbsY _ => 0x59#8
  | .eorIndX _ => 0x41#8
  | .eorIndY _ => 0x51#8
  | .cmpImm _ => 0xC9#8
  | .cmpZp _ => 0xC5#8
  | .cmpZpX _ => 0xD5#8
  | .cmpAbs _ => 0xCD#8
  | .cmpAbsX _ => 0xDD#8
  | .cmpAbsY _ => 0xD9#8
  | .cmpIndX _ => 0xC1#8
  | .cmpIndY _ => 0xD1#8
  | .cpxImm _ => 0xE0#8
  | .cpxZp _ => 0xE4#8
  | .cpxAbs _ => 0xEC#8
  | .cpyImm _ => 0xC0#8
  | .cpyZp _ => 0xC4#8
  | .cpyAbs _ => 0xCC#8
  | .bitZp _ => 0x24#8
  | .bitAbs _ => 0x2C#8
  | .incZp _ => 0xE6#8
  | .incZpX _ => 0xF6#8
  | .incAbs _ => 0xEE#8
  | .incAbsX _ => 0xFE#8
  | .decZp _ => 0xC6#8
  | .decZpX _ => 0xD6#8
  | .decAbs _ => 0xCE#8
  | .decAbsX _ => 0xDE#8
  | .inx => 0xE8#8
  | .iny => 0xC8#8
  | .dex => 0xCA#8
  | .dey => 0x88#8
  | .aslAcc => 0x0A#8
  | .aslZp _ => 0x06#8
  | .aslZpX _ => 0x16#8
  | .aslAbs _ => 0x0E#8
  | .aslAbsX _ => 0x1E#8
  | .lsrAcc => 0x4A#8
  | .lsrZp _ => 0x46#8
  | .lsrZpX _ => 0x56#8
  | .lsrAbs _ => 0x4E#8
  | .lsrAbsX _ => 0x5E#8
  | .rolAcc => 0x2A#8
  | .rolZp _ => 0x26#8
  | .rolZpX _ => 0x36#8
  | .rolAbs _ => 0x2E#8
  | .rolAbsX _ => 0x3E#8
  | .rorAcc => 0x6A#8
  | .rorZp _ => 0x66#8
  | .rorZpX _ => 0x76#8
  | .rorAbs _ => 0x6E#8
  | .rorAbsX _ => 0x7E#8
  | .bcc _ => 0x90#8
  | .bcs _ => 0xB0#8
  | .beq _ => 0xF0#8
  | .bmi _ => 0x30#8
  | .bne _ => 0xD0#8
  | .bpl _ => 0x10#8
  | .bvc _ => 0x50#8
  | .bvs _ => 0x70#8
  | .jmpAbs _ => 0x4C#8
  | .jmpInd _ => 0x6C#8
  | .jsr _ => 0x20#8
  | .rts => 0x60#8
  | .pha => 0x48#8
  | .php => 0x08#8
  | .pla => 0x68#8
  | .plp => 0x28#8
  | .clc => 0x18#8
  | .sec => 0x38#8
  | .cli => 0x58#8
  | .sei => 0x78#8
  | .cld => 0xD8#8
  | .sed => 0xF8#8
  | .clv => 0xB8#8
  | .brk => 0x00#8
  | .rti => 0x40#8
  | .nop => 0xEA#8

/-- The operand bytes of an instruction, low byte first (30_encoding.md R101). -/
def Instr.operands : Instr → List Byte
  | .ldaImm v => [v]
  | .ldaZp v => [v]
  | .ldaZpX v => [v]
  | .ldaAbs v => [loByte v, hiByte v]
  | .ldaAbsX v => [loByte v, hiByte v]
  | .ldaAbsY v => [loByte v, hiByte v]
  | .ldaIndX v => [v]
  | .ldaIndY v => [v]
  | .ldxImm v => [v]
  | .ldxZp v => [v]
  | .ldxZpY v => [v]
  | .ldxAbs v => [loByte v, hiByte v]
  | .ldxAbsY v => [loByte v, hiByte v]
  | .ldyImm v => [v]
  | .ldyZp v => [v]
  | .ldyZpX v => [v]
  | .ldyAbs v => [loByte v, hiByte v]
  | .ldyAbsX v => [loByte v, hiByte v]
  | .staZp v => [v]
  | .staZpX v => [v]
  | .staAbs v => [loByte v, hiByte v]
  | .staAbsX v => [loByte v, hiByte v]
  | .staAbsY v => [loByte v, hiByte v]
  | .staIndX v => [v]
  | .staIndY v => [v]
  | .stxZp v => [v]
  | .stxZpY v => [v]
  | .stxAbs v => [loByte v, hiByte v]
  | .styZp v => [v]
  | .styZpX v => [v]
  | .styAbs v => [loByte v, hiByte v]
  | .tax => []
  | .tay => []
  | .txa => []
  | .tya => []
  | .tsx => []
  | .txs => []
  | .adcImm v => [v]
  | .adcZp v => [v]
  | .adcZpX v => [v]
  | .adcAbs v => [loByte v, hiByte v]
  | .adcAbsX v => [loByte v, hiByte v]
  | .adcAbsY v => [loByte v, hiByte v]
  | .adcIndX v => [v]
  | .adcIndY v => [v]
  | .sbcImm v => [v]
  | .sbcZp v => [v]
  | .sbcZpX v => [v]
  | .sbcAbs v => [loByte v, hiByte v]
  | .sbcAbsX v => [loByte v, hiByte v]
  | .sbcAbsY v => [loByte v, hiByte v]
  | .sbcIndX v => [v]
  | .sbcIndY v => [v]
  | .andImm v => [v]
  | .andZp v => [v]
  | .andZpX v => [v]
  | .andAbs v => [loByte v, hiByte v]
  | .andAbsX v => [loByte v, hiByte v]
  | .andAbsY v => [loByte v, hiByte v]
  | .andIndX v => [v]
  | .andIndY v => [v]
  | .oraImm v => [v]
  | .oraZp v => [v]
  | .oraZpX v => [v]
  | .oraAbs v => [loByte v, hiByte v]
  | .oraAbsX v => [loByte v, hiByte v]
  | .oraAbsY v => [loByte v, hiByte v]
  | .oraIndX v => [v]
  | .oraIndY v => [v]
  | .eorImm v => [v]
  | .eorZp v => [v]
  | .eorZpX v => [v]
  | .eorAbs v => [loByte v, hiByte v]
  | .eorAbsX v => [loByte v, hiByte v]
  | .eorAbsY v => [loByte v, hiByte v]
  | .eorIndX v => [v]
  | .eorIndY v => [v]
  | .cmpImm v => [v]
  | .cmpZp v => [v]
  | .cmpZpX v => [v]
  | .cmpAbs v => [loByte v, hiByte v]
  | .cmpAbsX v => [loByte v, hiByte v]
  | .cmpAbsY v => [loByte v, hiByte v]
  | .cmpIndX v => [v]
  | .cmpIndY v => [v]
  | .cpxImm v => [v]
  | .cpxZp v => [v]
  | .cpxAbs v => [loByte v, hiByte v]
  | .cpyImm v => [v]
  | .cpyZp v => [v]
  | .cpyAbs v => [loByte v, hiByte v]
  | .bitZp v => [v]
  | .bitAbs v => [loByte v, hiByte v]
  | .incZp v => [v]
  | .incZpX v => [v]
  | .incAbs v => [loByte v, hiByte v]
  | .incAbsX v => [loByte v, hiByte v]
  | .decZp v => [v]
  | .decZpX v => [v]
  | .decAbs v => [loByte v, hiByte v]
  | .decAbsX v => [loByte v, hiByte v]
  | .inx => []
  | .iny => []
  | .dex => []
  | .dey => []
  | .aslAcc => []
  | .aslZp v => [v]
  | .aslZpX v => [v]
  | .aslAbs v => [loByte v, hiByte v]
  | .aslAbsX v => [loByte v, hiByte v]
  | .lsrAcc => []
  | .lsrZp v => [v]
  | .lsrZpX v => [v]
  | .lsrAbs v => [loByte v, hiByte v]
  | .lsrAbsX v => [loByte v, hiByte v]
  | .rolAcc => []
  | .rolZp v => [v]
  | .rolZpX v => [v]
  | .rolAbs v => [loByte v, hiByte v]
  | .rolAbsX v => [loByte v, hiByte v]
  | .rorAcc => []
  | .rorZp v => [v]
  | .rorZpX v => [v]
  | .rorAbs v => [loByte v, hiByte v]
  | .rorAbsX v => [loByte v, hiByte v]
  | .bcc v => [v]
  | .bcs v => [v]
  | .beq v => [v]
  | .bmi v => [v]
  | .bne v => [v]
  | .bpl v => [v]
  | .bvc v => [v]
  | .bvs v => [v]
  | .jmpAbs v => [loByte v, hiByte v]
  | .jmpInd v => [loByte v, hiByte v]
  | .jsr v => [loByte v, hiByte v]
  | .rts => []
  | .pha => []
  | .php => []
  | .pla => []
  | .plp => []
  | .clc => []
  | .sec => []
  | .cli => []
  | .sei => []
  | .cld => []
  | .sed => []
  | .clv => []
  | .brk => []
  | .rti => []
  | .nop => []

/-- The encoder: the bytes of an instruction in ascending address order (30_encoding.md R100, R101). -/
def encode (i : Instr) : List Byte := i.opcode :: i.operands

/-- `BASE_COST` of an instruction (column `cycles`, 70_reset_and_hazards.md R420). -/
def Instr.baseCost (i : Instr) : Nat := ((opcodeRow i.opcode).map OpRow.cycles).getD 0

/-- The instruction the decoder reads from a word of `nbits` bits numbered as the opcode table numbers them (bits 7..0 the
opcode byte, 15..8 the next byte, 23..16 the third); every bit from `nbits` up is 0. -/
def decodeTableWord (nbits w : Nat) : Option Instr :=
  let v := w % 2 ^ nbits
  match decode [BitVec.ofNat 8 v, BitVec.ofNat 8 (v / 256), BitVec.ofNat 8 (v / 65536)] with
  | .ok (i, _) => some i
  | .error _ => none

end Sys2Proof
end

