-- ==== Sys2Proof/Config.lean ====
section
/-! DEFINITION. The parameters of 00_scope.md R7 that are no state, each under a name a claim can use, and the free values:
opaque constants without a body, so that nothing in Lean can learn a value of one. `DEFINED_OPCODES`, `BASE_COST` and
`PENALTY_ELIGIBLE` are read off the opcode table in Decode.lean (`definedOpcode`, `Instr.baseCost`, `penaltyEligible`); `MODE`
is state. -/

namespace Sys2Proof

/-- `REG_WIDTH`, the width of `Byte` (10_state.md R20). -/
abbrev Config.regWidth : Nat := 8

/-- `PC_WIDTH`, `ADDR_WIDTH`, the width of `Addr` (10_state.md R24, R46). -/
abbrev Config.addrWidth : Nat := 16

/-- `DECIMAL_ENABLED` = false: D changes no arithmetic (41_arithmetic_logic.md R163, D2). -/
abbrev Config.decimalEnabled : Bool := false

/-- `STACK_PAGE`, the base of the stack page (10_state.md R21, D3). -/
def Config.stackPage : Addr := 0x0100#16

/-- `VEC_NMI`, where the NMI vector's low byte lies (20_memory.md R69, D4). -/
def Config.vecNmi : Addr := 0xFFFA#16

/-- `VEC_RESET`, where the reset vector's low byte lies (20_memory.md R69, D4). -/
def Config.vecReset : Addr := 0xFFFC#16

/-- `VEC_IRQ`, where the low byte of the vector of IRQ and BRK lies (20_memory.md R69, D4). -/
def Config.vecIrq : Addr := 0xFFFE#16

/-- `INT_COST`, the clocks of an IRQ or NMI entry (60_exceptions.md R352, R353, D10). -/
def Config.intCost : Nat := 7

/-- `BRANCH_PAGE_REF`: the address whose page the branch page-cross test compares, from the address `next` of the next
instruction (43_control_flow.md R190, D15). -/
abbrev Config.branchPageRef (next : Addr) : Addr := next

/-- `RESET_A` (70_reset_and_hazards.md R400). OPEN in the spec: DESIGN CHOICE (log 5), its simulator default, unsafe. -/
def Config.resetA : Byte := 0x00#8

/-- `RESET_X` (R400). OPEN in the spec: DESIGN CHOICE (log 5), its simulator default, unsafe. -/
def Config.resetX : Byte := 0x00#8

/-- `RESET_Y` (R400). OPEN in the spec: DESIGN CHOICE (log 5), its simulator default, unsafe. -/
def Config.resetY : Byte := 0x00#8

/-- `RESET_S` (R400). OPEN in the spec: DESIGN CHOICE (log 5), its simulator default, unsafe. -/
def Config.resetS : Byte := 0xFD#8

/-- `RESET_P` (R400). OPEN in the spec: DESIGN CHOICE (log 5), its simulator default, unsafe. -/
def Config.resetP : Byte := 0x24#8

/-- `RAM_BASE`, the first address of the RAM window (20_memory.md R67, D17). -/
abbrev Config.ramBase : Nat := 0x0000

/-- `RAM_WINDOW_END`, the last address of the RAM window (20_memory.md R67, D17). -/
abbrev Config.ramWindowEnd : Nat := 0x1FFF

/-- `PPU_REG_BASE`, the first address of the window of the PPU slots (20_memory.md R67, D17, D19). -/
abbrev Config.ppuRegBase : Nat := 0x2000

/-- `PPU_REG_END`, the last address of that window (20_memory.md R67, D17, D19). -/
abbrev Config.ppuRegEnd : Nat := 0x3FFF

/-- `IO_WINDOW`, its first address: the window is undecoded (20_memory.md R67, D17). -/
abbrev Config.ioWindowBase : Nat := 0x4000

/-- `IO_WINDOW`, its last address (20_memory.md R67, D17). -/
abbrev Config.ioWindowEnd : Nat := 0x401F

/-- `MAPPER_RAM_BASE`, the first address routed to mapper RAM (20_memory.md R67, D17). -/
abbrev Config.mapperRamBase : Nat := 0x4020

/-- `ROM_BASE`, the lowest address of the ROM window (49_mapper.md R321). -/
abbrev Config.romBase : Nat := 0x8000

/-- `FIXED_BASE`, the lowest address of the fixed-bank window (49_mapper.md R321). -/
abbrev Config.fixedBase : Nat := 0xC000

/-- `RAM_SIZE` (10_state.md R42, D17). -/
def Config.ramSize : Nat := 0x0800

/-- `ROM_PAGE_SIZE` (10_state.md R44, 49_mapper.md R321). -/
def Config.romPageSize : Nat := 0x4000

/-- `VROM_PAGE_SIZE` (10_state.md R44, 49_mapper.md R321). -/
def Config.vromPageSize : Nat := 0x2000

/-- `N_ROM_PAGES`, the default number of program-ROM pages (49_mapper.md R321, D34). -/
def Config.romPages : Nat := 2

/-- `N_VROM_PAGES`, the default number of video-ROM pages (49_mapper.md R321, D35). -/
def Config.vromPages : Nat := 1

/-- `SCROLL_FIRST` = vertical (46_ppu_registers.md R246, D22): the first Scroll write of a pair latches `scroll_v`. -/
def Config.scrollFirstVertical : Bool := true

/-- `STATUS_READ_RESETS_TOGGLE` = false (46_ppu_registers.md R247, D23). -/
def Config.statusReadResetsToggle : Bool := false

/-- `NT_LAYOUT` = four separate pages of 0x0400 bytes: the physical page of a nametable quadrant (10_state.md R43, 48_bus.md
R306, D28). -/
abbrev Config.ntPage (quadrant : Nat) : Nat := quadrant

/-- The two readings of `SPRITE0_POLICY` the spec gives (47_ppu_rendering.md R281, D30). -/
inductive Sprite0Policy where
  /-- Bit 6 of a Status read is any value, on every read. -/
  | anyValue
  /-- The loop-order behaviour of a simulator: `update` clears the bit and a sprite pass that runs sets it. -/
  | loopOrder
  deriving DecidableEq, Repr

/-- `SPRITE0_POLICY` = any value on read (47_ppu_rendering.md R281, D30). -/
abbrev Config.sprite0Policy : Sprite0Policy := .anyValue

/-- `COUNTER_WIDTH`: none is without bound (10_state.md R31, D37). -/
abbrev Config.counterWidth : Option Nat := none

/-- A counter one event later, at `COUNTER_WIDTH` (10_state.md R31). -/
def Config.countUp (n : Nat) : Nat :=
  match Config.counterWidth with
  | none => n + 1
  | some w => (n + 1) % 2 ^ w

/-- `SPRDATA_READ_INCREMENTS` (46_ppu_registers.md R245, D24), left OPEN by the spec: uninterpreted, so a proof must admit
both values (log 13, safe). -/
opaque Config.sprDataReadIncrements : Bool

/-- FREE VALUE. The `k`-th free byte a run draws (the spec's "any value", "a draw"; log 3, safe). -/
opaque Config.freeByte : Nat → BitVec 8

/-- FREE VALUE. The `k`-th free address a run draws: an unspecified PC (00_scope.md R11, log 2, safe). -/
opaque Config.freeAddr : Nat → BitVec 16

/-- FREE VALUE. The `k`-th free clock count a run draws: what `run`, `IRQ()` or `NMI()` returns after a BusFault
(00_scope.md R11, 95_test_vectors.md P7(c), log 14, safe). -/
opaque Config.freeClocks : Nat → Nat

/-- FREE VALUE. A free bit, read off the `k`-th free byte (log 3, safe). -/
def Config.freeBit (k : Nat) : Bool := (Config.freeByte k).getLsbD 0

end Sys2Proof
end

