-- ==== Sys2Proof/Machine/Memory.lean ====
section
/-! DEFINITION. A memory: a list of (address, byte) pairs in one canonical form (10_state.md R42 to R44, R46). -/

namespace Sys2Proof.Machine

/-- A memory, as its cells that differ from `Memory.blank`, addresses strictly rising. -/
abbrev Memory := List Host.Cell

/-- What a byte reads as that nothing has written: RAM, video RAM, palette, sprite memory after construction, and cartridge
bytes never flashed. The spec leaves them OPEN (10_state.md R48). DESIGN CHOICE (log 4), unsafe: one fixed byte, 0x00. -/
def Memory.blank : Byte := 0x00#8

/-- The byte at an address. -/
def Memory.read : Memory → Nat → Byte
  | [], _ => Memory.blank
  | (k, v) :: m, a => if k = a then v else Memory.read m a

/-- A memory with one byte written, in canonical form again: writing `Memory.blank` removes the cell. -/
def Memory.write : Memory → Nat → Byte → Memory
  | [], a, v => if v = Memory.blank then [] else [(a, v)]
  | (k, w) :: m, a, v =>
    if a < k then (if v = Memory.blank then (k, w) :: m else (a, v) :: (k, w) :: m)
    else if a = k then (if v = Memory.blank then m else (a, v) :: m)
    else (k, w) :: Memory.write m a v

/-- A memory with consecutive bytes written from an address up. -/
def Memory.writeAll : Memory → Nat → List Byte → Memory
  | m, _, [] => m
  | m, a, v :: vs => Memory.writeAll (m.write a v) (a + 1) vs

/-- The canonical form: addresses strictly rising, no cell equal to what an unlisted address reads as. -/
abbrev Memory.wf (m : Memory) : Prop :=
  m.Pairwise (fun c d => c.1 < d.1) ∧ ∀ c ∈ m, c.2 ≠ Memory.blank

/-- The canonical form of a memory of `size` bytes. -/
abbrev Memory.wfIn (size : Nat) (m : Memory) : Prop :=
  m.wf ∧ ∀ c ∈ m, c.1 < size

end Sys2Proof.Machine
end

