-- ==== Sys2Proof/Machine/State.lean ====
section
/-! DEFINITION. The state of the whole machine, plain data (10_state.md R20 to R48; 48_bus.md R312), the reasons a step can
stop, and the state after reset. -/

namespace Sys2Proof.Machine

/-- The seven stored flags of the status byte P (10_state.md R22). Bit 5 is no flag: it reads as 1. -/
structure Flags where
  /-- C, carry, bit 0. -/
  c : Bool
  /-- Z, zero, bit 1. -/
  z : Bool
  /-- I, interrupt disable, bit 2. -/
  i : Bool
  /-- D, decimal, bit 3. -/
  d : Bool
  /-- B, break, bit 4: "never written by any instruction or interrupt". -/
  b : Bool
  /-- V, overflow, bit 6. -/
  v : Bool
  /-- N, negative, bit 7. -/
  n : Bool
  deriving DecidableEq, Repr

/-- `run_state` (10_state.md R30). -/
inductive RunState where
  | halted | running | error
  deriving DecidableEq, Repr

/-- The video timing variant `MODE` (47_ppu_rendering.md R272). -/
inductive VideoMode where
  | short | full
  deriving DecidableEq, Repr

/-- The registers of the PPU (10_state.md R35 to R40). -/
structure Ppu where
  /-- Control1, slot 0 (R36). -/
  ctrl1 : Byte
  /-- Control2, slot 1 (R37). -/
  ctrl2 : Byte
  /-- Status bit 7 (R38). -/
  vblank : Bool
  /-- Status bit 6 (R38); a Status read returns it only under the `loopOrder` policy (R281, log 11). -/
  spr0Hit : Bool
  /-- Status bit 5 (R38): nothing sets it (R280). -/
  sprOverflow : Bool
  /-- SpriteMemAddress, slot 3 (R39). -/
  sprAddr : Byte
  /-- The vertical half of Scroll, slot 5 (R39). -/
  scrollV : Byte
  /-- The horizontal half of Scroll, slot 5 (R39). -/
  scrollH : Byte
  /-- VideoMemAddress, slot 6 (R39). -/
  vaddr : Addr
  /-- The write toggle shared by slots 5 and 6 (R40): false means the next write is the first of a pair. -/
  toggle : Bool
  deriving DecidableEq, Repr

/-- A cartridge with the default mapper (49_mapper.md R321): its page counts, its program ROM (page `p`, offset `o` at key
`p * 0x4000 + o`) and its video ROM (page `p`, offset `o` at key `p * 0x2000 + o`). -/
structure Cartridge where
  romPages  : Nat
  vromPages : Nat
  rom       : Memory
  vrom      : Memory
  deriving DecidableEq, Repr

/-- A cartridge whose memories are canonical and fit its pages, with at least one ROM page (49_mapper.md R321, log 19). -/
abbrev Cartridge.wf (c : Cartridge) : Prop :=
  1 ≤ c.romPages ∧ c.rom.wfIn (c.romPages * Config.romPageSize) ∧ c.vrom.wfIn (c.vromPages * Config.vromPageSize)

/-- The default mapper with nothing flashed (49_mapper.md R321). -/
def Cartridge.blank : Cartridge :=
  { romPages := Config.romPages, vromPages := Config.vromPages, rom := [], vrom := [] }

/-- Why a bus or mapper operation fails (00_scope.md R11; 60_exceptions.md R350, R358). A failed operation changes no state
(48_bus.md R301). The spec names three typed failures, `illegalArgument`, `illegalOperation` and `sizeOverflow` (00_scope.md
R12). Where it says only "fail" and names none of them, the four other names are the model's own: DESIGN CHOICE (log 23),
unsafe for a claim about which failure the host gets. A CPU instruction cannot tell them apart. -/
inductive Failure where
  /-- No block decodes 0x4000 to 0x401F (48_bus.md R300, R301). The name is the model's (log 23). -/
  | undecoded
  /-- A mapper operation with no cartridge injected (48_bus.md R300). The name is the model's (log 23). -/
  | noCartridge
  /-- An address outside the ROM window (49_mapper.md R322, R326). -/
  | illegalArgument
  /-- Mapper RAM in the default variant (49_mapper.md R323), or a Control1 write with bit 5 set (46_ppu_registers.md R241). -/
  | illegalOperation
  /-- A `flash` beyond the bank's capacity (49_mapper.md R326). -/
  | sizeOverflow
  /-- A store at or above 0x8000 (48_bus.md R301). The name is the model's (log 23). -/
  | romWrite
  /-- A video write below 0x2000 (48_bus.md R307). The name is the model's (log 23). -/
  | vramWrite
  deriving DecidableEq, Repr

/-- A colour entry of a symbol (47_ppu_rendering.md R270). -/
inductive Pixel where
  | transparent
  | color (c : BitVec 6)
  deriving DecidableEq, Repr

/-- The layer of a symbol (47_ppu_rendering.md R270). -/
inductive Layer where
  | background | front | behind
  deriving DecidableEq, Repr

/-- A call of the PPU to the rendering sink (47_ppu_rendering.md R270). -/
inductive SinkCall where
  | setBackground (color : BitVec 6)
  | setSymbol (layer : Layer) (x y : Int) (pixels : List Pixel)
  | draw
  deriving DecidableEq, Repr

/-- The calls the host may make (70_reset_and_hazards.md R404), the setting of MODE (48_bus.md R311) and the mapper's own
operations (49_mapper.md R320). -/
inductive HostCall where
  | run (budget : Nat)
  | reset
  | irq
  | nmi
  | update
  | state
  | snapshot
  | counters
  | readMem (a : Addr)
  | writeMem (a : Addr) (v : Byte)
  | readVideoMem (a : Addr)
  | writeVideoMem (a : Addr) (v : Byte)
  | readSpriteMem (i : Nat)
  | writeSpriteMem (i : Nat) (v : Byte)
  | generateNMI
  | injectCartridge (c : Cartridge)
  | getMode
  | setMode (m : VideoMode)
  | flash (addr : Nat) (buffer : List Byte)
  | readROM (addr : Addr)
  | readRAM (addr : Addr)
  | writeRAM (addr : Addr) (v : Byte)
  | readVROM (addr : Nat)
  deriving DecidableEq, Repr

/-- A `run(budget)` call in progress: its budget and the clocks spent so far (60_exceptions.md R356). -/
structure RunCall where
  budget : Nat
  spent  : Nat
  deriving DecidableEq, Repr

/-- What a host call returned (70_reset_and_hazards.md R404). -/
inductive Returned where
  /-- Nothing yet, or a call that returns nothing. -/
  | nothing
  /-- `run`, `IRQ()`, `NMI()`. -/
  | clocks (n : Nat)
  /-- A read operation. -/
  | byte (v : Byte)
  /-- A typed failure (60_exceptions.md R358). -/
  | failed (f : Failure)
  /-- `state()`. -/
  | runState (r : RunState)
  /-- The register snapshot, P in its byte view (10_state.md R22). -/
  | registers (a x y s p : Byte) (pc : Addr)
  /-- The two diagnostic counters (10_state.md R31). -/
  | counters (nmi rti : Nat)
  /-- `getMode()`. -/
  | mode (m : VideoMode)
  deriving DecidableEq, Repr

/-- The machine. -/
structure State where
  /-- A, X, Y (10_state.md R20). -/
  a : Byte
  x : Byte
  y : Byte
  /-- S, the stack pointer (R21). -/
  s : Byte
  /-- P (R22). -/
  p : Flags
  /-- PC (R24). -/
  pc : Addr
  /-- `run_state` (R30). -/
  runState : RunState
  /-- `nmi_count` and `rti_count` (R31). -/
  nmiCount : Nat
  rtiCount : Nat
  /-- `nmi_pending`, held by the bus (R33). -/
  nmiPending : Bool
  /-- `penalty` of the instruction in progress (R34). -/
  penalty : Nat
  /-- `stack_fault` of the instruction or entry in progress (44_stack_and_flags.md R212). -/
  stackFault : Bool
  /-- The model's own: a bus access of the instruction or entry in progress failed (00_scope.md R11, log 14). -/
  busFault : Bool
  /-- The PPU's registers (R35 to R40). -/
  ppu : Ppu
  /-- Internal RAM, keys below 0x0800 (R42). -/
  ram : Memory
  /-- Nametable RAM, keys below 0x1000 (R43, 48_bus.md R306). -/
  nt : Memory
  /-- Palette RAM, keys below 32 (R43). -/
  pal : Memory
  /-- Sprite memory, keys below 256 (R41). -/
  spr : Memory
  /-- The injected cartridge (R44, R45). -/
  cart : Option Cartridge
  /-- `MODE` (R45). -/
  mode : VideoMode
  /-- The model's own: how many free values have been drawn (log 3). -/
  draws : Nat
  /-- The model's own: the host calls still to be made, oldest first (log 9). -/
  calls : List HostCall
  /-- The model's own: the `run` call in progress (log 9). -/
  run : Option RunCall
  /-- The model's own: what the latest host call returned (log 10). -/
  returned : Returned
  /-- The model's own: the latest `update`'s calls to the sink (log 10). -/
  frame : List SinkCall
  deriving DecidableEq, Repr

/-- Why the machine stops. -/
inductive Fault where
  /-- FatalVROM: `readVROM` out of range, "a fault that stops the whole machine" (49_mapper.md R325). Raised by a CPU access
  to slot 7, by `update`, and by the host's video reads. Safe: the spec defines no later state. -/
  | fatalVrom
  /-- `update` found 8x16 sprites enabled (47_ppu_rendering.md R271, R279). Raised by the host call `update`. Safe: the spec
  calls it a fault and defines no later state. -/
  | sprites8x16
  /-- `update` needed the cartridge and none is injected (48_bus.md R300; 93_implementation_defined.md, "any mapper access
  with no cartridge injected: fault"). Raised by the host call `update`. Safe: the spec defines no later state. -/
  | updateNoCartridge
  deriving DecidableEq, Repr

/-- Why a step has no meaning. -/
inductive Refusal where
  /-- An instruction without a meaning: raised by an arm of `exec` alone. Safe. -/
  | notModelled (mnemonic : String)
  /-- Instruction fetch from 0x2000 to 0x7FFF, "not given a meaning by this spec: a model refuses it" (20_memory.md R77).
  Raised by the fetch of an instruction's bytes. Safe. -/
  | fetchRegion
  deriving DecidableEq, Repr

/-- Construction (70_reset_and_hazards.md R401, 10_state.md R48). What the spec leaves OPEN is a value of the model's: log 4
(memories), log 5 (registers), log 6 (PPU registers), log 8 (MODE), all unsafe. -/
def State.construct : State :=
  { a := 0x00#8, x := 0x00#8, y := 0x00#8, s := 0x00#8
    p := { c := false, z := false, i := false, d := false, b := false, v := false, n := false }
    pc := 0x0000#16, runState := .halted, nmiCount := 0, rtiCount := 0, nmiPending := false
    penalty := 0, stackFault := false, busFault := false
    ppu :=
      { ctrl1 := 0x00#8, ctrl2 := 0x00#8, vblank := false, spr0Hit := false, sprOverflow := false, sprAddr := 0x00#8
        scrollV := 0x00#8, scrollH := 0x00#8, vaddr := 0x0000#16, toggle := false }
    ram := [], nt := [], pal := [], spr := [], cart := none, mode := .full
    draws := 0, calls := [], run := none, returned := .nothing, frame := [] }

/-- The machine right after `reset()` (70_reset_and_hazards.md R400) of a constructed machine with the blank default cartridge
injected (R403, log 7): PC is the reset vector, whose two unflashed bytes read 0x00 (log 4). -/
def State.reset : State :=
  { State.construct with
    a := Config.resetA, x := Config.resetX, y := Config.resetY, s := Config.resetS
    p :=
      { c := Config.resetP.getLsbD 0, z := Config.resetP.getLsbD 1, i := true, d := Config.resetP.getLsbD 3, b := false
        v := Config.resetP.getLsbD 6, n := Config.resetP.getLsbD 7 }
    pc := 0x0000#16, runState := .running, cart := some Cartridge.blank }

end Sys2Proof.Machine
end

