-- ==== Sys2Proof/Machine/Flags.lean ====
section
/-! DEFINITION. Every flag computation of the spec and the byte view of P (10_state.md R22; 41_arithmetic_logic.md R160 to
R163; 42_shift_rotate.md R180 to R184). -/

namespace Sys2Proof.Machine

/-- `SetZN(v)` (41_arithmetic_logic.md R161). -/
def Flags.setZN (p : Flags) (v : Byte) : Flags := { p with z := v == 0#8, n := v.getLsbD 7 }

/-- `P.C` and `SetZN(v)` together, as the compares and shifts write them (R169, R180). -/
def Flags.setCZN (p : Flags) (c : Bool) (v : Byte) : Flags := { p.setZN v with c := c }

/-- `P.C`, `P.V` and `SetZN(v)` together, as ADC and SBC write them (R164, R165). -/
def Flags.setCVZN (p : Flags) (c v : Bool) (r : Byte) : Flags := { p.setZN r with c := c, v := v }

/-- What `AddCore` returns (41_arithmetic_logic.md R162). -/
structure AddResult where
  r     : Byte
  carry : Bool
  ovf   : Bool
  deriving DecidableEq, Repr

/-- `AddCore(a, m, c)` (41_arithmetic_logic.md R162). -/
def addCore (a m : Byte) (c : Bool) : AddResult :=
  let sum := a.toNat + m.toNat + c.toNat
  let r := BitVec.ofNat 8 sum
  { r := r, carry := decide (sum > 0xFF), ovf := ((a ^^^ r) &&& (m ^^^ r) &&& 0x80#8) != 0#8 }

/-- The byte view `N:V:1:B:D:I:Z:C` of P (10_state.md R22). -/
def Flags.toByte (p : Flags) : Byte :=
  BitVec.ofBool p.n ++ BitVec.ofBool p.v ++ 1#1 ++ BitVec.ofBool p.b ++ BitVec.ofBool p.d ++ BitVec.ofBool p.i
    ++ BitVec.ofBool p.z ++ BitVec.ofBool p.c

/-- The pushed copy of P: bit 5 is 1, bit 4 is 1 from PHP and BRK and 0 from IRQ and NMI entry (R214, R230, R352, R353). -/
def Flags.pushed (p : Flags) (brk : Bool) : Byte :=
  if brk then p.toByte ||| 0x30#8 else (p.toByte ||| 0x20#8) &&& 0xEF#8

/-- A popped byte written to P, bits 4 and 5 ignored (44_stack_and_flags.md R216, 45_system.md R231). -/
def Flags.load (p : Flags) (v : Byte) : Flags :=
  { p with c := v.getLsbD 0, z := v.getLsbD 1, i := v.getLsbD 2, d := v.getLsbD 3, v := v.getLsbD 6, n := v.getLsbD 7 }

/-- What a shift or rotate computes: the result and the bit shifted out. -/
structure ShiftResult where
  r     : Byte
  carry : Bool
  deriving DecidableEq, Repr

/-- ASL: `r = (M * 2) mod 256`, C = M[7] (42_shift_rotate.md R181). -/
def shiftLeft (m : Byte) : ShiftResult := { r := BitVec.ofNat 8 (m.toNat * 2), carry := m.getLsbD 7 }

/-- LSR: `r = M div 2`, C = M[0] (R182). -/
def shiftRight (m : Byte) : ShiftResult := { r := BitVec.ofNat 8 (m.toNat / 2), carry := m.getLsbD 0 }

/-- ROL: `r = ((M * 2) mod 256) or P.C`, C = M[7] (R183). -/
def rotateLeft (c : Bool) (m : Byte) : ShiftResult :=
  { r := BitVec.ofNat 8 (m.toNat * 2) ||| BitVec.ofNat 8 c.toNat, carry := m.getLsbD 7 }

/-- ROR: `r = (M div 2) or (P.C * 0x80)`, C = M[0] (R184). -/
def rotateRight (c : Bool) (m : Byte) : ShiftResult :=
  { r := BitVec.ofNat 8 (m.toNat / 2) ||| BitVec.ofNat 8 (c.toNat * 0x80), carry := m.getLsbD 0 }

end Sys2Proof.Machine
end

