-- ==== Sys2Proof/Machine/Mapper.lean ====
section
/-! DEFINITION. The default cartridge mapper (49_mapper.md R320 to R328): a constant mapping, no bank state (R328). -/

namespace Sys2Proof.Machine

/-- The key in `rom` of byte `o` of the last ROM page (49_mapper.md R322). -/
def Cartridge.lastPage (c : Cartridge) (o : Nat) : Nat := (c.romPages - 1) * Config.romPageSize + o

/-- `readROM(addr)` (49_mapper.md R322). -/
def Cartridge.readROM (c : Cartridge) (addr : Nat) : Except Failure Byte :=
  if addr < Config.romBase then .error .illegalArgument
  else if addr < Config.fixedBase then .ok (c.rom.read (addr - Config.romBase))
  else .ok (c.rom.read (c.lastPage (addr - Config.fixedBase)))

/-- `readRAM(addr)`: no general RAM (49_mapper.md R323). -/
def Cartridge.readRAM (_ : Cartridge) (_ : Nat) : Except Failure Byte := .error .illegalOperation

/-- `writeRAM(addr, v)`: no general RAM (49_mapper.md R323). -/
def Cartridge.writeRAM (_ : Cartridge) (_ : Nat) (_ : Byte) : Except Failure Unit := .error .illegalOperation

/-- `readVROM(addr)`, none where it is fatal (49_mapper.md R325). -/
def Cartridge.readVROM (c : Cartridge) (addr : Nat) : Option Byte :=
  if addr ≥ c.vromPages * Config.vromPageSize then none else some (c.vrom.read addr)

/-- `flash` at or above `FIXED_BASE`: the fixed window alone (49_mapper.md R326). -/
def Cartridge.flashFixed (c : Cartridge) (addr : Nat) (buffer : List Byte) : Except Failure Cartridge :=
  if buffer.length > 0x10000 - addr then .error .sizeOverflow
  else .ok { c with rom := c.rom.writeAll (c.lastPage (addr - Config.fixedBase)) buffer }

/-- The first part of a split `flash`: what fits below `FIXED_BASE` goes to the first page (49_mapper.md R326). -/
def Cartridge.flashSwitchable (c : Cartridge) (addr : Nat) (buffer : List Byte) : Cartridge :=
  { c with rom := c.rom.writeAll (addr - Config.romBase) (buffer.take (Config.fixedBase - addr)) }

/-- `flash(addr, buffer, size)` with `size` the buffer's length: the failure, if any, and the cartridge after it
(49_mapper.md R326). After a SizeOverflow that follows a split "whether the first part was written is unspecified": it is
written exactly when the free bit `firstPart` says so (log 17, safe). -/
def Cartridge.flash (c : Cartridge) (firstPart : Bool) (addr : Nat) (buffer : List Byte) : Option Failure × Cartridge :=
  if addr < Config.romBase ∨ addr > 0xFFFF then (some .illegalArgument, c)
  else if addr < Config.fixedBase then
    if buffer.length ≤ Config.fixedBase - addr then (none, c.flashSwitchable addr buffer)
    else
      match (c.flashSwitchable addr buffer).flashFixed Config.fixedBase (buffer.drop (Config.fixedBase - addr)) with
      | .ok c' => (none, c')
      | .error f => (some f, if firstPart then c.flashSwitchable addr buffer else c)
  else
    match c.flashFixed addr buffer with
    | .ok c' => (none, c')
    | .error f => (some f, c)

end Sys2Proof.Machine
end

