-- ==== Sys2Proof/Machine/Update.lean ====
section
/-! DEFINITION. The named updates of State, the outcome of a bus access, and the drawing of free values. -/

namespace Sys2Proof.Machine

/-- `A <- v` (00_scope.md R9). -/
def State.setA (st : State) (v : Byte) : State := { st with a := v }

/-- `X <- v`. -/
def State.setX (st : State) (v : Byte) : State := { st with x := v }

/-- `Y <- v`. -/
def State.setY (st : State) (v : Byte) : State := { st with y := v }

/-- `S <- v`. -/
def State.setS (st : State) (v : Byte) : State := { st with s := v }

/-- All stored flags of P at once. -/
def State.setP (st : State) (v : Flags) : State := { st with p := v }

/-- `pc <- target`. -/
def State.setPc (st : State) (v : Addr) : State := { st with pc := v }

/-- `run_state <- v`. -/
def State.setRunState (st : State) (v : RunState) : State := { st with runState := v }

/-- `penalty <- n` (10_state.md R34). -/
def State.setPenalty (st : State) (n : Nat) : State := { st with penalty := n }

/-- The `stack_fault` flag (44_stack_and_flags.md R212). -/
def State.setStackFault (st : State) (b : Bool) : State := { st with stackFault := b }

/-- Internal RAM. -/
def State.setRam (st : State) (m : Memory) : State := { st with ram := m }

/-- The PPU's registers. -/
def State.setPpu (st : State) (u : Ppu) : State := { st with ppu := u }

/-- One free value has been drawn (log 3). -/
def State.drawn (st : State) : State := { st with draws := st.draws + 1 }

/-- One RAM byte: `ram[a mod 0x0800] <- v` (48_bus.md R301). -/
def State.writeRam (st : State) (a : Addr) (v : Byte) : State :=
  st.setRam (st.ram.write (a.toNat % Config.ramSize) v)

/-- `ram[a mod 0x0800]` (48_bus.md R300). -/
def State.readRam (st : State) (a : Addr) : Byte := st.ram.read (a.toNat % Config.ramSize)

/-- The outcome of a bus access (00_scope.md R11). A failed access changes no state (48_bus.md R301). -/
inductive Access (α : Type) where
  /-- It succeeded, with this value and this state. -/
  | ok (v : α) (t : State)
  /-- The bus or the mapper refused it. -/
  | failed (f : Failure)
  /-- `readVROM` out of range: the machine stops (49_mapper.md R325). -/
  | fatal
  deriving DecidableEq, Repr

end Sys2Proof.Machine
end

