-- ==== Sys2Proof/Machine/Ppu.lean ====
section
/-! DEFINITION. Video address space, sprite memory and the PPU register protocol (46_ppu_registers.md R240 to R251;
48_bus.md R303, R306 to R308). -/

namespace Sys2Proof.Machine

/-- `ctrl1.nt_select`, bits 1:0 (10_state.md R36). -/
def Ppu.ntSelect (u : Ppu) : BitVec 2 := u.ctrl1.extractLsb' 0 2

/-- `ctrl1.addr_inc`, bit 2 (R36). -/
def Ppu.addrInc (u : Ppu) : Bool := u.ctrl1.getLsbD 2

/-- `ctrl1.spr_pt`, bit 3 (R36). -/
def Ppu.sprPt (u : Ppu) : Bool := u.ctrl1.getLsbD 3

/-- `ctrl1.bg_pt`, bit 4 (R36). -/
def Ppu.bgPt (u : Ppu) : Bool := u.ctrl1.getLsbD 4

/-- `ctrl1.spr_size`, bit 5 (R36). -/
def Ppu.sprSize (u : Ppu) : Bool := u.ctrl1.getLsbD 5

/-- `ctrl1.nmi_enable`, bit 7 (R36). -/
def Ppu.nmiEnable (u : Ppu) : Bool := u.ctrl1.getLsbD 7

/-- `ctrl2.bg_visible`, bit 3 (R37). -/
def Ppu.bgVisible (u : Ppu) : Bool := u.ctrl2.getLsbD 3

/-- `ctrl2.spr_visible`, bit 4 (R37). -/
def Ppu.sprVisible (u : Ppu) : Bool := u.ctrl2.getLsbD 4

/-- The eight register slots (10_state.md R35, D19). -/
inductive Slot where
  | control1 | control2 | status | spriteMemAddress | spriteMemData | scroll | videoMemAddress | videoMemData
  deriving DecidableEq, Repr

/-- The slot of a CPU address in 0x2000 to 0x3FFF: `a mod 8` (46_ppu_registers.md R240). -/
def Slot.ofAddr (a : Addr) : Slot :=
  match a.toNat % 8 with
  | 0 => .control1
  | 1 => .control2
  | 2 => .status
  | 3 => .spriteMemAddress
  | 4 => .spriteMemData
  | 5 => .scroll
  | 6 => .videoMemAddress
  | _ => .videoMemData

/-- `NtIndex(a)` for a decoded video address, its page placed by `NT_LAYOUT` (48_bus.md R306, D28). -/
def ntIndex (a : Nat) : Nat :=
  let i := (a - 0x2000) % 0x1000
  Config.ntPage (i / 0x0400) * 0x0400 + i % 0x0400

/-- `PalIndex(a)` for a decoded video address (48_bus.md R306). -/
def palIndex (a : Nat) : Nat :=
  let i := a % 32
  if i % 4 = 0 ∧ i ≥ 16 then i - 16 else i

/-- `readVideoMem(a)`, `VidRead` (48_bus.md R306): it writes no state. -/
def vidRead (a : Nat) (st : State) : Access Byte :=
  let a := a % 0x4000
  if a < 0x2000 then
    match st.cart with
    | none => .failed .noCartridge
    | some c =>
      match c.readVROM a with
      | none => .fatal
      | some v => .ok v st
  else if a < 0x3F00 then .ok (st.nt.read (ntIndex a)) st
  else .ok (st.pal.read (palIndex a)) st

/-- `writeVideoMem(a, v)`, `VidWrite` (48_bus.md R307). Below 0x2000 the spec says only that it fails: the name `vramWrite` of
that failure is the model's, DESIGN CHOICE (log 23). -/
def vidWrite (a : Nat) (v : Byte) (st : State) : Access Unit :=
  let a := a % 0x4000
  if a < 0x2000 then .failed .vramWrite
  else if a < 0x3F00 then .ok () { st with nt := st.nt.write (ntIndex a) v }
  else .ok () { st with pal := st.pal.write (palIndex a) v }

/-- `readSpriteMem(i)`, `SprRead` (48_bus.md R308). -/
def sprRead (i : Nat) (st : State) : Byte := st.spr.read (i % 256)

/-- `writeSpriteMem(i, v)`, `SprWrite` (48_bus.md R308). -/
def sprWrite (i : Nat) (v : Byte) (st : State) : State := { st with spr := st.spr.write (i % 256) v }

/-- The step of `vaddr` after a VideoMemData access (46_ppu_registers.md R249). -/
def Ppu.stepVaddr (u : Ppu) : Ppu := { u with vaddr := u.vaddr + if u.addrInc then 32#16 else 1#16 }

/-- The step of `spr_addr` after a SpriteMemData access (46_ppu_registers.md R245). -/
def Ppu.stepSprAddr (u : Ppu) : Ppu := { u with sprAddr := u.sprAddr + 1#8 }

/-- Bit 6 of a Status read, by `SPRITE0_POLICY` (47_ppu_rendering.md R281, D30, log 11). -/
def sprite0Bit (u : Ppu) (free : Bool) : Bool :=
  match Config.sprite0Policy with
  | .anyValue => free
  | .loopOrder => u.spr0Hit

/-- The byte a Status read returns: bits 7 and 5 stored, bits 6 and 4:0 a free value (46_ppu_registers.md R243, R281, D41,
log 11). -/
def statusByte (u : Ppu) (free : Byte) : Byte :=
  BitVec.ofBool u.vblank ++ BitVec.ofBool (sprite0Bit u (free.getLsbD 6)) ++ BitVec.ofBool u.sprOverflow ++ free.extractLsb' 0 5

/-- Read of slot 2, Status: the value before the clear, then `vblank <- 0` (R243, R247). -/
def readStatus (st : State) : Access Byte :=
  let u := { st.ppu with vblank := false, toggle := st.ppu.toggle && !Config.statusReadResetsToggle }
  .ok (statusByte st.ppu (Config.freeByte st.draws)) (st.drawn.setPpu u)

/-- Read of slot 4, SpriteMemData (R245, log 13). -/
def readSpriteData (st : State) : Access Byte :=
  .ok (sprRead st.ppu.sprAddr.toNat st)
    (if Config.sprDataReadIncrements then st.setPpu st.ppu.stepSprAddr else st)

/-- Read of slot 7, VideoMemData: the address advances only if the access succeeds (R249). -/
def readVideoData (st : State) : Access Byte :=
  match vidRead st.ppu.vaddr.toNat st with
  | .ok v t => .ok v (t.setPpu t.ppu.stepVaddr)
  | .failed f => .failed f
  | .fatal => .fatal

/-- Read of a write-only slot: any value, no state change but the draw (R250, log 12). -/
def readWriteOnly (st : State) : Access Byte := .ok (Config.freeByte st.draws) st.drawn

/-- `PpuRead(n)` (48_bus.md R303; 46_ppu_registers.md R243, R245, R249, R250). -/
def ppuRead (n : Slot) (st : State) : Access Byte :=
  match n with
  | .control1 => readWriteOnly st
  | .control2 => readWriteOnly st
  | .status => readStatus st
  | .spriteMemAddress => readWriteOnly st
  | .spriteMemData => readSpriteData st
  | .scroll => readWriteOnly st
  | .videoMemAddress => readWriteOnly st
  | .videoMemData => readVideoData st

/-- Write of slot 0, Control1: 8x16 sprites are rejected (46_ppu_registers.md R241). -/
def writeControl1 (v : Byte) (st : State) : Access Unit :=
  if v.getLsbD 5 then .failed .illegalOperation else .ok () (st.setPpu { st.ppu with ctrl1 := v })

/-- Write of slot 5, Scroll (R246). -/
def Ppu.writeScroll (u : Ppu) (v : Byte) : Ppu :=
  if u.toggle = Config.scrollFirstVertical then { u with scrollH := v, toggle := !u.toggle }
  else { u with scrollV := v, toggle := !u.toggle }

/-- Write of slot 6, VideoMemAddress: high byte first (R248). -/
def Ppu.writeVaddr (u : Ppu) (v : Byte) : Ppu :=
  if u.toggle then { u with vaddr := addrOf (hiByte u.vaddr) v, toggle := !u.toggle }
  else { u with vaddr := addrOf v (loByte u.vaddr), toggle := !u.toggle }

/-- Write of slot 4, SpriteMemData (R245). -/
def writeSpriteData (v : Byte) (st : State) : Access Unit :=
  .ok () ((sprWrite st.ppu.sprAddr.toNat v st).setPpu st.ppu.stepSprAddr)

/-- Write of slot 7, VideoMemData: the address advances only if the access succeeds (R249). -/
def writeVideoData (v : Byte) (st : State) : Access Unit :=
  match vidWrite st.ppu.vaddr.toNat v st with
  | .ok _ t => .ok () (t.setPpu t.ppu.stepVaddr)
  | .failed f => .failed f
  | .fatal => .fatal

/-- `PpuWrite(n, v)` (48_bus.md R303; 46_ppu_registers.md R241, R242, R244 to R250); a write to Status changes nothing. -/
def ppuWrite (n : Slot) (v : Byte) (st : State) : Access Unit :=
  match n with
  | .control1 => writeControl1 v st
  | .control2 => .ok () (st.setPpu { st.ppu with ctrl2 := v })
  | .status => .ok () st
  | .spriteMemAddress => .ok () (st.setPpu { st.ppu with sprAddr := v })
  | .spriteMemData => writeSpriteData v st
  | .scroll => .ok () (st.setPpu (st.ppu.writeScroll v))
  | .videoMemAddress => .ok () (st.setPpu (st.ppu.writeVaddr v))
  | .videoMemData => writeVideoData v st

end Sys2Proof.Machine
end

