-- ==== Sys2Proof/Machine/Ops.lean ====
section
/-! DEFINITION. The named operations over memory, the stack and the run state: CPU address space (48_bus.md R300, R301), what a
failed access leaves (00_scope.md R11), push and pop (44_stack_and_flags.md R210 to R212), interrupt entry and return
(60_exceptions.md R357, R362). -/

namespace Sys2Proof.Machine

/-- The outcome of an instruction or an interrupt entry. -/
abbrev Result := Host.Outcome State Fault Refusal

/-- The windows of CPU address space (20_memory.md R67). -/
inductive Window where
  | ram | ppu | undecoded | mapperRam | mapperRom
  deriving DecidableEq, Repr

/-- The window a CPU address lies in, by the bounds of 00_scope.md R7 (20_memory.md R67, 48_bus.md R300, R301, D17). -/
def windowOf (a : Addr) : Window :=
  if Config.ramBase ≤ a.toNat ∧ a.toNat ≤ Config.ramWindowEnd then .ram
  else if Config.ppuRegBase ≤ a.toNat ∧ a.toNat ≤ Config.ppuRegEnd then .ppu
  else if Config.ioWindowBase ≤ a.toNat ∧ a.toNat ≤ Config.ioWindowEnd then .undecoded
  else if Config.mapperRamBase ≤ a.toNat ∧ a.toNat < Config.romBase then .mapperRam
  else if Config.romBase ≤ a.toNat then .mapperRom
  else .undecoded

/-- A read the mapper answers; it fails if no cartridge is injected (48_bus.md R300). -/
def mapperRead (op : Cartridge → Except Failure Byte) (st : State) : Access Byte :=
  match st.cart with
  | none => .failed .noCartridge
  | some c =>
    match op c with
    | .ok v => .ok v st
    | .error f => .failed f

/-- A write the mapper takes; it fails if no cartridge is injected (48_bus.md R301). -/
def mapperWrite (op : Cartridge → Except Failure Unit) (st : State) : Access Unit :=
  match st.cart with
  | none => .failed .noCartridge
  | some c =>
    match op c with
    | .ok _ => .ok () st
    | .error f => .failed f

/-- `readMem(a)`, `MemRead(a, 1)` (48_bus.md R300). The names `undecoded` and `noCartridge` of its failures are the model's
(log 23). -/
def memRead (a : Addr) (st : State) : Access Byte :=
  match windowOf a with
  | .ram => .ok (st.readRam a) st
  | .ppu => ppuRead (Slot.ofAddr a) st
  | .undecoded => .failed .undecoded
  | .mapperRam => mapperRead (fun c => c.readRAM a.toNat) st
  | .mapperRom => mapperRead (fun c => c.readROM a.toNat) st

/-- `writeMem(a, v)`, `MemWrite(a, 1, v)` (48_bus.md R301). The names `undecoded`, `noCartridge` and `romWrite` of its failures
are the model's (log 23). -/
def memWrite (a : Addr) (v : Byte) (st : State) : Access Unit :=
  match windowOf a with
  | .ram => .ok () (st.writeRam a v)
  | .ppu => ppuWrite (Slot.ofAddr a) v st
  | .undecoded => .failed .undecoded
  | .mapperRam => mapperWrite (fun c => c.writeRAM a.toNat v) st
  | .mapperRom => .failed .romWrite

/-- `raise Error(BusFault)`: a failed access ends the instruction (00_scope.md R11; 60_exceptions.md R350, R351). -/
def State.busError (st : State) : State := { st with runState := .error, busFault := true }

/-- PC is unspecified: a free value (R11, log 2). -/
def State.spoilPc (st : State) : State := (st.setPc (Config.freeAddr st.draws)).drawn

/-- The flags that a failed instruction would have written are unspecified: each takes its bit of one free byte (R11, log 2). -/
def State.spoilFlags (c z v n : Bool) (st : State) : State :=
  let f := Config.freeByte st.draws
  (st.setP
    { st.p with
      c := if c then f.getLsbD 0 else st.p.c, z := if z then f.getLsbD 1 else st.p.z
      v := if v then f.getLsbD 6 else st.p.v, n := if n then f.getLsbD 7 else st.p.n }).drawn

/-- A is unspecified (R11, log 2). -/
def State.spoilA (st : State) : State := (st.setA (Config.freeByte st.draws)).drawn

/-- X is unspecified (R11, log 2). -/
def State.spoilX (st : State) : State := (st.setX (Config.freeByte st.draws)).drawn

/-- Y is unspecified (R11, log 2). -/
def State.spoilY (st : State) : State := (st.setY (Config.freeByte st.draws)).drawn

/-- One CPU read, then the rest of the instruction; if the access fails, BusFault with what the rest would have written
unspecified (R11). -/
def readThen (a : Addr) (spoil : State → State) (k : Byte → State → Result) (st : State) : Result :=
  match memRead a st with
  | .ok v t => k v t
  | .failed _ => .next (spoil st).busError
  | .fatal => .fault .fatalVrom

/-- One CPU write, then the rest of the instruction; failure as in `readThen`. -/
def writeThen (a : Addr) (v : Byte) (spoil : State → State) (k : State → Result) (st : State) : Result :=
  match memWrite a v st with
  | .ok _ t => k t
  | .failed _ => .next (spoil st).busError
  | .fatal => .fault .fatalVrom

/-- The CPU address S designates: `STACK_PAGE + S` (10_state.md R21), a RAM address (log 18). -/
def State.stackAddr (st : State) : Addr := Config.stackPage + st.s.setWidth 16

/-- `Push(v)` (44_stack_and_flags.md R210). -/
def push (v : Byte) (st : State) : State :=
  ((st.writeRam st.stackAddr v).setStackFault (st.stackFault || st.s == 0x00#8)).setS (st.s - 1#8)

/-- The part of `Pop()` before its read: the bound test and the move of S (44_stack_and_flags.md R211). -/
def pulled (st : State) : State := (st.setStackFault (st.stackFault || st.s == 0xFF#8)).setS (st.s + 1#8)

/-- `Pop()`: the byte read is the one S designates after the move, `(pulled st).popped` (44_stack_and_flags.md R211). -/
def State.popped (st : State) : Byte := st.readRam st.stackAddr

/-- The start of an instruction or entry that uses the stack: `stack_fault` is false (44_stack_and_flags.md R212). -/
def stackBegin (st : State) : State := st.setStackFault false

/-- Its end: with all other effects done, a wrap of S puts the CPU in Error, cause StackWrap (R212). -/
def stackEnd (st : State) : State := if st.stackFault then st.setRunState .error else st

/-- Two pushes: high byte, then low byte (43_control_flow.md R200; 60_exceptions.md R357). -/
def pushAddr (v : Addr) (st : State) : State := push (loByte v) (push (hiByte v) st)

/-- The interrupt frame of BRK, IRQ and NMI, then `P.I <- 1` (60_exceptions.md R357). The status byte pushed is P before. -/
def pushFrame (ret : Addr) (brk : Bool) (st : State) : State :=
  let t := push (st.p.pushed brk) (pushAddr ret st)
  t.setP { t.p with i := true }

/-- TAKING AN INTERRUPT, the one operation of BRK, IRQ and NMI: the frame, `P.I <- 1`, PC from the vector, low byte first,
then `finish`, then the stack bound (45_system.md R230; 60_exceptions.md R352, R353, R357; 44_stack_and_flags.md R212). If a
vector read fails, BusFault with `spoil` for what was still to be written (R11). -/
def enterInterrupt (ret : Addr) (brk : Bool) (vector : Addr) (finish spoil : State → State) (st : State) : Result :=
  readThen vector spoil
    (fun lo t => readThen (vector + 1#16) spoil (fun hi u => .next (stackEnd (finish (u.setPc (addrOf hi lo))))) t)
    (pushFrame ret brk (stackBegin st))

/-- The IRQ entry (60_exceptions.md R352). -/
def irqEntry (st : State) : Result := enterInterrupt st.pc false Config.vecIrq id State.spoilPc st

/-- One more delivered NMI (60_exceptions.md R353). -/
def State.countNmi (st : State) : State := { st with nmiCount := Config.countUp st.nmiCount }

/-- After a failed vector read of an NMI entry PC is unspecified, and so is whether the NMI was counted (R11, log 2). -/
def State.spoilNmi (st : State) : State :=
  { st.spoilPc with
    nmiCount := if Config.freeBit (st.draws + 1) then Config.countUp st.nmiCount else st.nmiCount, draws := st.draws + 2 }

/-- `NMIEntry` (60_exceptions.md R353). -/
def nmiEntry (st : State) : Result := enterInterrupt st.pc false Config.vecNmi State.countNmi State.spoilNmi st

/-- RETURNING FROM AN INTERRUPT: pop the status byte, then PC low, then PC high, and count it (45_system.md R231;
60_exceptions.md R362). -/
def returnFromInterrupt (st : State) : State :=
  let t := pulled (stackBegin st)
  let u := pulled (t.setP (t.p.load t.popped))
  let w := pulled u
  stackEnd { w.setPc (addrOf w.popped u.popped) with rtiCount := Config.countUp st.rtiCount }

end Sys2Proof.Machine
end

