-- ==== Sys2Proof/Machine/Render.lean ====
section
/-! DEFINITION. The PPU's frame sequencer and composition (47_ppu_rendering.md R270 to R281). The composition only reads. -/

namespace Sys2Proof.Machine

/-- `VidRead(a)` where it succeeds. `update` composes only after it has checked that every video read of the frame does. -/
def vidByte (st : State) (a : Nat) : Byte :=
  match vidRead a st with
  | .ok v _ => v
  | .failed _ => Memory.blank
  | .fatal => Memory.blank

/-- The colour of a palette byte: its low 6 bits (47_ppu_rendering.md R270; 48_bus.md R306). -/
def colorOf (v : Byte) : BitVec 6 := v.extractLsb' 0 6

/-- The colour entry at row `r`, column `c` of a tile (47_ppu_rendering.md R274). -/
def tilePixel (st : State) (ptbase tile group palbase : Nat) (fliph flipv : Bool) (r c : Nat) : Pixel :=
  let sr := if flipv then 7 - r else r
  let sc := if fliph then 7 - c else c
  let lo := vidByte st (ptbase + 16 * tile + sr)
  let hi := vidByte st (ptbase + 16 * tile + 8 + sr)
  let b := 7 - sc
  let pix := 2 * (hi.getLsbD b).toNat + (lo.getLsbD b).toNat
  if pix = 0 then .transparent else .color (colorOf (vidByte st (palbase + 4 * group + pix)))

/-- `TileSymbol`: the 64 colour entries of a tile, entry `8 * r + c` (47_ppu_rendering.md R274). -/
def tileSymbol (st : State) (ptbase tile group palbase : Nat) (fliph flipv : Bool) : List Pixel :=
  (List.range 64).map (fun k => tilePixel st ptbase tile group palbase fliph flipv (k / 8) (k % 8))

/-- `AttrGroup(base, tx, ty)` (47_ppu_rendering.md R275). -/
def attrGroup (st : State) (base tx ty : Nat) : Nat :=
  let a := vidByte st (base + 0x03C0 + 8 * (ty / 4) + tx / 4)
  let shift := 4 * ((ty % 4) / 2) + 2 * ((tx % 4) / 2)
  (a.toNat / 2 ^ shift) % 4

/-- The base of a pattern table (10_state.md R36). -/
def patternBase (high : Bool) : Nat := if high then 0x1000 else 0x0000

/-- The background symbol of row `r`, column `c` (47_ppu_rendering.md R273). -/
def backgroundSymbol (st : State) (r c : Nat) : SinkCall :=
  let u := st.ppu
  let fx := u.scrollH.toNat % 8
  let fy := u.scrollV.toNat % 8
  let gx := u.scrollH.toNat / 8 + c
  let gy := u.scrollV.toNat / 8 + r
  let qx := ((u.ntSelect.getLsbD 0).toNat + gx / 32) % 2
  let tx := gx % 32
  let qy := ((u.ntSelect.getLsbD 1).toNat + gy / 30) % 2
  let ty := gy % 30
  let base := 0x2000 + 0x0400 * (2 * qy + qx)
  let tile := (vidByte st (base + 32 * ty + tx)).toNat
  let group := attrGroup st base tx ty
  .setSymbol .background (8 * (c : Int) - (fx : Int)) (8 * (r : Int) - (fy : Int))
    (tileSymbol st (patternBase u.bgPt) tile group 0x3F00 false false)

/-- Whether tile row `r` is composed: in `Short` row 0 and the rows from 29 up are skipped (47_ppu_rendering.md R272, R273). -/
def rowShown (m : VideoMode) (r : Nat) : Bool :=
  match m with
  | .full => true
  | .short => decide (1 ≤ r ∧ r ≤ 28)

/-- How many tile columns the background pass composes (47_ppu_rendering.md R273). -/
def backgroundColumns (u : Ppu) : Nat := if u.scrollH.toNat % 8 = 0 then 32 else 33

/-- How many tile rows the background pass goes through (47_ppu_rendering.md R273). -/
def backgroundRows (u : Ppu) : Nat := if u.scrollV.toNat % 8 = 0 then 30 else 31

/-- The background pass, row by row (47_ppu_rendering.md R273). -/
def backgroundPass (st : State) : List SinkCall :=
  ((List.range (backgroundRows st.ppu)).filter (rowShown st.mode)).flatMap
    (fun r => (List.range (backgroundColumns st.ppu)).map (backgroundSymbol st r))

/-- The symbol of sprite slot `n` (47_ppu_rendering.md R277; 10_state.md R41). -/
def spriteSymbol (st : State) (n : Nat) : SinkCall :=
  let y := sprRead (4 * n) st
  let tile := sprRead (4 * n + 1) st
  let attr := sprRead (4 * n + 2) st
  let x := sprRead (4 * n + 3) st
  .setSymbol (if attr.getLsbD 5 then .behind else .front) (x.toNat : Int) ((y.toNat : Int) + 1)
    (tileSymbol st (patternBase st.ppu.sprPt) tile.toNat (attr.extractLsb' 0 2).toNat 0x3F10 (attr.getLsbD 6)
      (attr.getLsbD 7))

/-- The sprite pass, slot 63 first and slot 0 last (47_ppu_rendering.md R277). -/
def spritePass (st : State) : List SinkCall := (List.range 64).reverse.map (spriteSymbol st)

/-- The whole frame (47_ppu_rendering.md R271, step 2). -/
def composeFrame (st : State) : List SinkCall :=
  .setBackground (colorOf (vidByte st 0x3F00))
    :: ((if st.ppu.bgVisible then backgroundPass st else []) ++ (if st.ppu.sprVisible then spritePass st else [])
      ++ [.draw])

/-- `generateNMI()` (48_bus.md R309). -/
def generateNmi (st : State) : State := { st with nmiPending := true }

/-- Why the frame cannot be composed: each visible pass reads the pattern tables, all of them below 0x2000, so its video reads
all succeed exactly when a cartridge with at least one VROM page is injected (47_ppu_rendering.md R274; 49_mapper.md R325). -/
def frameFault (st : State) : Option Fault :=
  if st.ppu.bgVisible || st.ppu.sprVisible then
    match st.cart with
    | none => some .updateNoCartridge
    | some c => if c.vromPages = 0 then some .fatalVrom else none
  else none

/-- What `update` leaves in `spr0_hit`, by `SPRITE0_POLICY`: a free bit, or whether the sprite pass ran
(47_ppu_rendering.md R281, log 11). -/
def sprite0After (u : Ppu) (free : Bool) : Bool :=
  match Config.sprite0Policy with
  | .anyValue => free
  | .loopOrder => u.sprVisible

/-- `update()`, one frame (47_ppu_rendering.md R271): clear vblank, compose, set vblank, request an NMI if enabled. With 8x16
sprites enabled it faults (R279). -/
def updateFrame (st : State) : Result :=
  if st.ppu.sprSize then .fault .sprites8x16
  else
    match frameFault st with
    | some f => .fault f
    | none =>
      let t := st.setPpu { st.ppu with vblank := false }
      let u := { t with frame := composeFrame t }
      let w := u.drawn.setPpu { u.ppu with vblank := true, spr0Hit := sprite0After u.ppu (Config.freeBit u.draws) }
      .next (if w.ppu.nmiEnable then generateNmi w else w)

end Sys2Proof.Machine
end

