-- ==== Sys2Proof/Machine/Operands.lean ====
section
/-! DEFINITION. The operand forms: where each addressing mode's operand lies, and the three ways an instruction uses it
(30_encoding.md R103 to R115; 20_memory.md R63, R64). -/

namespace Sys2Proof.Machine

/-- `zext_16(v)` (00_scope.md R9). -/
def zext16 (v : Byte) : Addr := v.setWidth 16

/-- `sext_16(v)` (00_scope.md R9). -/
def sext16 (v : Byte) : Addr := v.signExtend 16

/-- An operand in memory: its effective address, and whether indexing changed the high byte of the address. -/
structure Place where
  ea      : Addr
  crossed : Bool
  deriving DecidableEq, Repr

/-- Zero page (30_encoding.md R105). -/
def atZp (zp : Byte) (_ : State) : Place := { ea := zext16 zp, crossed := false }

/-- Zero page,X: the sum wraps inside page zero (30_encoding.md R106). -/
def atZpX (zp : Byte) (st : State) : Place := { ea := zext16 (zp + st.x), crossed := false }

/-- Zero page,Y (30_encoding.md R107). -/
def atZpY (zp : Byte) (st : State) : Place := { ea := zext16 (zp + st.y), crossed := false }

/-- Absolute (30_encoding.md R108). -/
def atAbs (addr : Addr) (_ : State) : Place := { ea := addr, crossed := false }

/-- A 16-bit base indexed by a byte, wrapping at 16 bits (30_encoding.md R109). -/
def indexed (base : Addr) (index : Byte) : Place :=
  let ea := base + zext16 index
  { ea := ea, crossed := hiByte ea != hiByte base }

/-- Absolute,X (30_encoding.md R109). -/
def atAbsX (addr : Addr) (st : State) : Place := indexed addr st.x

/-- Absolute,Y (30_encoding.md R110). -/
def atAbsY (addr : Addr) (st : State) : Place := indexed addr st.y

/-- The pointer in page zero at `z` and `(z + 1) mod 256`, low byte first (30_encoding.md R112, R113; 20_memory.md R63). Page
zero is RAM, so its two reads have no side effect and cannot fail (log 18). -/
def zpPointer (z : Byte) (st : State) : Addr := addrOf (st.readRam (zext16 (z + 1#8))) (st.readRam (zext16 z))

/-- (Indirect,X) (30_encoding.md R112). -/
def atIndX (zp : Byte) (st : State) : Place := { ea := zpPointer (zp + st.x) st, crossed := false }

/-- (Indirect),Y (30_encoding.md R113). -/
def atIndY (zp : Byte) (st : State) : Place := indexed (zpPointer zp st) st.y

/-- The page-cross penalty: `if PENALTY_ELIGIBLE(opcode) and EA[15:8] != base[15:8] then penalty <- 1` (30_encoding.md R109,
R110, R113, R115). -/
def Place.charge (pl : Place) (op : Byte) (st : State) : State :=
  if penaltyEligible op && pl.crossed then st.setPenalty 1 else st

/-- The operand use of the read instructions: `M <- MemRead(EA, 1)`, then `effect M`; `spoil` names what `effect` writes
(00_scope.md R11). `op` is the opcode byte. -/
def readOperand (op : Byte) (form : State → Place) (spoil : State → State) (effect : Byte → State → State) (st : State) :
    Result :=
  readThen (form st).ea spoil (fun m t => .next (effect m t)) ((form st).charge op st)

/-- The operand use of the stores: one write, no read (40_load_store_transfer.md R140). No store is penalty-eligible
(30_encoding.md R115). -/
def storeOperand (op : Byte) (form : State → Place) (v : Byte) (st : State) : Result :=
  writeThen (form st).ea v id .next ((form st).charge op st)

/-- The operand use of the read-modify-write instructions: one read, one write (20_memory.md R64); none is penalty-eligible
(30_encoding.md R115). `compute M` is the result and `flags r` the flags, as the instruction says; `spoil` names the flags
(00_scope.md R11, 90_conflicts.md C11). -/
def modifyOperand (op : Byte) (form : State → Place) (spoil : State → State) (compute : Byte → State → ShiftResult)
    (flags : ShiftResult → Flags → Flags) (st : State) : Result :=
  readThen (form st).ea spoil
    (fun m t =>
      let r := compute m t
      writeThen (form st).ea r.r spoil (fun u => .next (u.setP (flags r u.p))) t)
    ((form st).charge op st)

end Sys2Proof.Machine
end

