-- ==== Sys2Proof/Machine/LoadStore.lean ====
section
/-! DEFINITION. Loads, stores and register transfers (40_load_store_transfer.md R140 to R152). -/

namespace Sys2Proof.Machine

/-- `A <- v; SetZN(A)` (R140, R141). -/
def loadA (v : Byte) (st : State) : State := (st.setA v).setP (st.p.setZN v)

/-- `X <- v; SetZN(X)` (R140, R142). -/
def loadX (v : Byte) (st : State) : State := (st.setX v).setP (st.p.setZN v)

/-- `Y <- v; SetZN(Y)` (R140, R143). -/
def loadY (v : Byte) (st : State) : State := (st.setY v).setP (st.p.setZN v)

/-- After a failed operand read A, Z and N are unspecified (00_scope.md R11, log 2). -/
def spoilAZN (st : State) : State := st.spoilA.spoilFlags false true false true

/-- After a failed operand read X, Z and N are unspecified (00_scope.md R11, log 2). -/
def spoilXZN (st : State) : State := st.spoilX.spoilFlags false true false true

/-- After a failed operand read Y, Z and N are unspecified (00_scope.md R11, log 2). -/
def spoilYZN (st : State) : State := st.spoilY.spoilFlags false true false true

/-- LDA, immediate (R141). -/
def execLdaImm (imm : Byte) (st : State) : Result :=
  .next (loadA imm st)

/-- LDA, zero page (R141). -/
def execLdaZp (zp : Byte) (st : State) : Result :=
  readOperand 0xA5#8 (atZp zp) spoilAZN loadA st

/-- LDA, zero page,X (R141). -/
def execLdaZpX (zp : Byte) (st : State) : Result :=
  readOperand 0xB5#8 (atZpX zp) spoilAZN loadA st

/-- LDA, absolute (R141). -/
def execLdaAbs (addr : Addr) (st : State) : Result :=
  readOperand 0xAD#8 (atAbs addr) spoilAZN loadA st

/-- LDA, absolute,X (R141). -/
def execLdaAbsX (addr : Addr) (st : State) : Result :=
  readOperand 0xBD#8 (atAbsX addr) spoilAZN loadA st

/-- LDA, absolute,Y (R141). -/
def execLdaAbsY (addr : Addr) (st : State) : Result :=
  readOperand 0xB9#8 (atAbsY addr) spoilAZN loadA st

/-- LDA, (indirect,X) (R141). -/
def execLdaIndX (zp : Byte) (st : State) : Result :=
  readOperand 0xA1#8 (atIndX zp) spoilAZN loadA st

/-- LDA, (indirect),Y (R141). -/
def execLdaIndY (zp : Byte) (st : State) : Result :=
  readOperand 0xB1#8 (atIndY zp) spoilAZN loadA st

/-- LDX, immediate (R142). -/
def execLdxImm (imm : Byte) (st : State) : Result :=
  .next (loadX imm st)

/-- LDX, zero page (R142). -/
def execLdxZp (zp : Byte) (st : State) : Result :=
  readOperand 0xA6#8 (atZp zp) spoilXZN loadX st

/-- LDX, zero page,Y (R142). -/
def execLdxZpY (zp : Byte) (st : State) : Result :=
  readOperand 0xB6#8 (atZpY zp) spoilXZN loadX st

/-- LDX, absolute (R142). -/
def execLdxAbs (addr : Addr) (st : State) : Result :=
  readOperand 0xAE#8 (atAbs addr) spoilXZN loadX st

/-- LDX, absolute,Y (R142). -/
def execLdxAbsY (addr : Addr) (st : State) : Result :=
  readOperand 0xBE#8 (atAbsY addr) spoilXZN loadX st

/-- LDY, immediate (R143). -/
def execLdyImm (imm : Byte) (st : State) : Result :=
  .next (loadY imm st)

/-- LDY, zero page (R143). -/
def execLdyZp (zp : Byte) (st : State) : Result :=
  readOperand 0xA4#8 (atZp zp) spoilYZN loadY st

/-- LDY, zero page,X (R143). -/
def execLdyZpX (zp : Byte) (st : State) : Result :=
  readOperand 0xB4#8 (atZpX zp) spoilYZN loadY st

/-- LDY, absolute (R143). -/
def execLdyAbs (addr : Addr) (st : State) : Result :=
  readOperand 0xAC#8 (atAbs addr) spoilYZN loadY st

/-- LDY, absolute,X (R143). -/
def execLdyAbsX (addr : Addr) (st : State) : Result :=
  readOperand 0xBC#8 (atAbsX addr) spoilYZN loadY st

/-- STA, zero page (R144). -/
def execStaZp (zp : Byte) (st : State) : Result :=
  storeOperand 0x85#8 (atZp zp) st.a st

/-- STA, zero page,X (R144). -/
def execStaZpX (zp : Byte) (st : State) : Result :=
  storeOperand 0x95#8 (atZpX zp) st.a st

/-- STA, absolute (R144). -/
def execStaAbs (addr : Addr) (st : State) : Result :=
  storeOperand 0x8D#8 (atAbs addr) st.a st

/-- STA, absolute,X (R144). -/
def execStaAbsX (addr : Addr) (st : State) : Result :=
  storeOperand 0x9D#8 (atAbsX addr) st.a st

/-- STA, absolute,Y (R144). -/
def execStaAbsY (addr : Addr) (st : State) : Result :=
  storeOperand 0x99#8 (atAbsY addr) st.a st

/-- STA, (indirect,X) (R144). -/
def execStaIndX (zp : Byte) (st : State) : Result :=
  storeOperand 0x81#8 (atIndX zp) st.a st

/-- STA, (indirect),Y (R144). -/
def execStaIndY (zp : Byte) (st : State) : Result :=
  storeOperand 0x91#8 (atIndY zp) st.a st

/-- STX, zero page (R145). -/
def execStxZp (zp : Byte) (st : State) : Result :=
  storeOperand 0x86#8 (atZp zp) st.x st

/-- STX, zero page,Y (R145). -/
def execStxZpY (zp : Byte) (st : State) : Result :=
  storeOperand 0x96#8 (atZpY zp) st.x st

/-- STX, absolute (R145). -/
def execStxAbs (addr : Addr) (st : State) : Result :=
  storeOperand 0x8E#8 (atAbs addr) st.x st

/-- STY, zero page (R146). -/
def execStyZp (zp : Byte) (st : State) : Result :=
  storeOperand 0x84#8 (atZp zp) st.y st

/-- STY, zero page,X (R146). -/
def execStyZpX (zp : Byte) (st : State) : Result :=
  storeOperand 0x94#8 (atZpX zp) st.y st

/-- STY, absolute (R146). -/
def execStyAbs (addr : Addr) (st : State) : Result :=
  storeOperand 0x8C#8 (atAbs addr) st.y st

/-- TAX (R147). -/
def execTax (st : State) : Result :=
  .next (loadX st.a st)

/-- TAY (R148). -/
def execTay (st : State) : Result :=
  .next (loadY st.a st)

/-- TXA (R149). -/
def execTxa (st : State) : Result :=
  .next (loadA st.x st)

/-- TYA (R150). -/
def execTya (st : State) : Result :=
  .next (loadA st.y st)

/-- TSX (R151). -/
def execTsx (st : State) : Result :=
  .next (loadX st.s st)

/-- TXS (R152). -/
def execTxs (st : State) : Result :=
  .next (st.setS st.x)

end Sys2Proof.Machine
end

