-- ==== Sys2Proof/Machine/ArithLogic.lean ====
section
/-! DEFINITION. Arithmetic, logic, compare, increment and decrement (41_arithmetic_logic.md R160 to R178). The flag D
changes none of them (R163). -/

namespace Sys2Proof.Machine

/-- A, C, V, Z and N are unspecified: after a failed operand read of ADC or SBC (00_scope.md R11, log 2). -/
def spoilACZVN (st : State) : State := st.spoilA.spoilFlags true true true true

/-- `A + m + P.C` to A and the flags, binary whatever D holds (R163, R164). Were `DECIMAL_ENABLED` set, the result with D set
would be one the spec does not state: free values (log 20). -/
def addToA (m : Byte) (st : State) : State :=
  if Config.decimalEnabled && st.p.d then spoilACZVN st
  else
    let r := addCore st.a m st.p.c
    (st.setA r.r).setP (st.p.setCVZN r.carry r.ovf r.r)

/-- ADC with operand `m` (R164). -/
def adc (m : Byte) (st : State) : State := addToA m st

/-- SBC with operand `m`: the one's complement is added with the carry (R165). -/
def sbc (m : Byte) (st : State) : State := addToA (m ^^^ 0xFF#8) st

/-- AND with operand `m` (R166). -/
def andA (m : Byte) (st : State) : State := loadA (st.a &&& m) st

/-- ORA with operand `m` (R167). -/
def oraA (m : Byte) (st : State) : State := loadA (st.a ||| m) st

/-- EOR with operand `m` (R168). -/
def eorA (m : Byte) (st : State) : State := loadA (st.a ^^^ m) st

/-- The compare of a register with operand `m`; V is discarded (R169). -/
def compareReg (reg m : Byte) (st : State) : State :=
  let r := addCore reg (m ^^^ 0xFF#8) true
  st.setP (st.p.setCZN r.carry r.r)

/-- CMP with operand `m` (R169). -/
def cmpA (m : Byte) (st : State) : State := compareReg st.a m st

/-- CPX with operand `m` (R170). -/
def cmpX (m : Byte) (st : State) : State := compareReg st.x m st

/-- CPY with operand `m` (R171). -/
def cmpY (m : Byte) (st : State) : State := compareReg st.y m st

/-- BIT with operand `m`: N and V come from the operand (R172). -/
def bitTest (m : Byte) (st : State) : State :=
  st.setP { st.p with z := (st.a &&& m) == 0#8, n := m.getLsbD 7, v := m.getLsbD 6 }

/-- After a failed access of a compare, or of a shift or rotate, C, Z and N are unspecified (R11, log 2). -/
def spoilCZN (st : State) : State := st.spoilFlags true true false true

/-- After a failed operand read of BIT Z, V and N are unspecified (R11, log 2). -/
def spoilZVN (st : State) : State := st.spoilFlags false true true true

/-- After a failed access of INC or DEC Z and N are unspecified (R11, log 2). -/
def spoilZN (st : State) : State := st.spoilFlags false true false true

/-- INC's result; C stays (R173). -/
def incremented (m : Byte) (st : State) : ShiftResult := { r := m + 1#8, carry := st.p.c }

/-- DEC's result; C stays (R174). -/
def decremented (m : Byte) (st : State) : ShiftResult := { r := m - 1#8, carry := st.p.c }

/-- `SetZN(r)` alone, the flags INC and DEC write (R173, R174). -/
def flagsZN (r : ShiftResult) (p : Flags) : Flags := p.setZN r.r

/-- ADC, immediate (R164). -/
def execAdcImm (imm : Byte) (st : State) : Result :=
  .next (adc imm st)

/-- ADC, zero page (R164). -/
def execAdcZp (zp : Byte) (st : State) : Result :=
  readOperand 0x65#8 (atZp zp) spoilACZVN adc st

/-- ADC, zero page,X (R164). -/
def execAdcZpX (zp : Byte) (st : State) : Result :=
  readOperand 0x75#8 (atZpX zp) spoilACZVN adc st

/-- ADC, absolute (R164). -/
def execAdcAbs (addr : Addr) (st : State) : Result :=
  readOperand 0x6D#8 (atAbs addr) spoilACZVN adc st

/-- ADC, absolute,X (R164). -/
def execAdcAbsX (addr : Addr) (st : State) : Result :=
  readOperand 0x7D#8 (atAbsX addr) spoilACZVN adc st

/-- ADC, absolute,Y (R164). -/
def execAdcAbsY (addr : Addr) (st : State) : Result :=
  readOperand 0x79#8 (atAbsY addr) spoilACZVN adc st

/-- ADC, (indirect,X) (R164). -/
def execAdcIndX (zp : Byte) (st : State) : Result :=
  readOperand 0x61#8 (atIndX zp) spoilACZVN adc st

/-- ADC, (indirect),Y (R164). -/
def execAdcIndY (zp : Byte) (st : State) : Result :=
  readOperand 0x71#8 (atIndY zp) spoilACZVN adc st

/-- SBC, immediate (R165). -/
def execSbcImm (imm : Byte) (st : State) : Result :=
  .next (sbc imm st)

/-- SBC, zero page (R165). -/
def execSbcZp (zp : Byte) (st : State) : Result :=
  readOperand 0xE5#8 (atZp zp) spoilACZVN sbc st

/-- SBC, zero page,X (R165). -/
def execSbcZpX (zp : Byte) (st : State) : Result :=
  readOperand 0xF5#8 (atZpX zp) spoilACZVN sbc st

/-- SBC, absolute (R165). -/
def execSbcAbs (addr : Addr) (st : State) : Result :=
  readOperand 0xED#8 (atAbs addr) spoilACZVN sbc st

/-- SBC, absolute,X (R165). -/
def execSbcAbsX (addr : Addr) (st : State) : Result :=
  readOperand 0xFD#8 (atAbsX addr) spoilACZVN sbc st

/-- SBC, absolute,Y (R165). -/
def execSbcAbsY (addr : Addr) (st : State) : Result :=
  readOperand 0xF9#8 (atAbsY addr) spoilACZVN sbc st

/-- SBC, (indirect,X) (R165). -/
def execSbcIndX (zp : Byte) (st : State) : Result :=
  readOperand 0xE1#8 (atIndX zp) spoilACZVN sbc st

/-- SBC, (indirect),Y (R165). -/
def execSbcIndY (zp : Byte) (st : State) : Result :=
  readOperand 0xF1#8 (atIndY zp) spoilACZVN sbc st

/-- AND, immediate (R166). -/
def execAndImm (imm : Byte) (st : State) : Result :=
  .next (andA imm st)

/-- AND, zero page (R166). -/
def execAndZp (zp : Byte) (st : State) : Result :=
  readOperand 0x25#8 (atZp zp) spoilAZN andA st

/-- AND, zero page,X (R166). -/
def execAndZpX (zp : Byte) (st : State) : Result :=
  readOperand 0x35#8 (atZpX zp) spoilAZN andA st

/-- AND, absolute (R166). -/
def execAndAbs (addr : Addr) (st : State) : Result :=
  readOperand 0x2D#8 (atAbs addr) spoilAZN andA st

/-- AND, absolute,X (R166). -/
def execAndAbsX (addr : Addr) (st : State) : Result :=
  readOperand 0x3D#8 (atAbsX addr) spoilAZN andA st

/-- AND, absolute,Y (R166). -/
def execAndAbsY (addr : Addr) (st : State) : Result :=
  readOperand 0x39#8 (atAbsY addr) spoilAZN andA st

/-- AND, (indirect,X) (R166). -/
def execAndIndX (zp : Byte) (st : State) : Result :=
  readOperand 0x21#8 (atIndX zp) spoilAZN andA st

/-- AND, (indirect),Y (R166). -/
def execAndIndY (zp : Byte) (st : State) : Result :=
  readOperand 0x31#8 (atIndY zp) spoilAZN andA st

/-- ORA, immediate (R167). -/
def execOraImm (imm : Byte) (st : State) : Result :=
  .next (oraA imm st)

/-- ORA, zero page (R167). -/
def execOraZp (zp : Byte) (st : State) : Result :=
  readOperand 0x05#8 (atZp zp) spoilAZN oraA st

/-- ORA, zero page,X (R167). -/
def execOraZpX (zp : Byte) (st : State) : Result :=
  readOperand 0x15#8 (atZpX zp) spoilAZN oraA st

/-- ORA, absolute (R167). -/
def execOraAbs (addr : Addr) (st : State) : Result :=
  readOperand 0x0D#8 (atAbs addr) spoilAZN oraA st

/-- ORA, absolute,X (R167). -/
def execOraAbsX (addr : Addr) (st : State) : Result :=
  readOperand 0x1D#8 (atAbsX addr) spoilAZN oraA st

/-- ORA, absolute,Y (R167). -/
def execOraAbsY (addr : Addr) (st : State) : Result :=
  readOperand 0x19#8 (atAbsY addr) spoilAZN oraA st

/-- ORA, (indirect,X) (R167). -/
def execOraIndX (zp : Byte) (st : State) : Result :=
  readOperand 0x01#8 (atIndX zp) spoilAZN oraA st

/-- ORA, (indirect),Y (R167). -/
def execOraIndY (zp : Byte) (st : State) : Result :=
  readOperand 0x11#8 (atIndY zp) spoilAZN oraA st

/-- EOR, immediate (R168). -/
def execEorImm (imm : Byte) (st : State) : Result :=
  .next (eorA imm st)

/-- EOR, zero page (R168). -/
def execEorZp (zp : Byte) (st : State) : Result :=
  readOperand 0x45#8 (atZp zp) spoilAZN eorA st

/-- EOR, zero page,X (R168). -/
def execEorZpX (zp : Byte) (st : State) : Result :=
  readOperand 0x55#8 (atZpX zp) spoilAZN eorA st

/-- EOR, absolute (R168). -/
def execEorAbs (addr : Addr) (st : State) : Result :=
  readOperand 0x4D#8 (atAbs addr) spoilAZN eorA st

/-- EOR, absolute,X (R168). -/
def execEorAbsX (addr : Addr) (st : State) : Result :=
  readOperand 0x5D#8 (atAbsX addr) spoilAZN eorA st

/-- EOR, absolute,Y (R168). -/
def execEorAbsY (addr : Addr) (st : State) : Result :=
  readOperand 0x59#8 (atAbsY addr) spoilAZN eorA st

/-- EOR, (indirect,X) (R168). -/
def execEorIndX (zp : Byte) (st : State) : Result :=
  readOperand 0x41#8 (atIndX zp) spoilAZN eorA st

/-- EOR, (indirect),Y (R168). -/
def execEorIndY (zp : Byte) (st : State) : Result :=
  readOperand 0x51#8 (atIndY zp) spoilAZN eorA st

/-- CMP, immediate (R169). -/
def execCmpImm (imm : Byte) (st : State) : Result :=
  .next (cmpA imm st)

/-- CMP, zero page (R169). -/
def execCmpZp (zp : Byte) (st : State) : Result :=
  readOperand 0xC5#8 (atZp zp) spoilCZN cmpA st

/-- CMP, zero page,X (R169). -/
def execCmpZpX (zp : Byte) (st : State) : Result :=
  readOperand 0xD5#8 (atZpX zp) spoilCZN cmpA st

/-- CMP, absolute (R169). -/
def execCmpAbs (addr : Addr) (st : State) : Result :=
  readOperand 0xCD#8 (atAbs addr) spoilCZN cmpA st

/-- CMP, absolute,X (R169). -/
def execCmpAbsX (addr : Addr) (st : State) : Result :=
  readOperand 0xDD#8 (atAbsX addr) spoilCZN cmpA st

/-- CMP, absolute,Y (R169). -/
def execCmpAbsY (addr : Addr) (st : State) : Result :=
  readOperand 0xD9#8 (atAbsY addr) spoilCZN cmpA st

/-- CMP, (indirect,X) (R169). -/
def execCmpIndX (zp : Byte) (st : State) : Result :=
  readOperand 0xC1#8 (atIndX zp) spoilCZN cmpA st

/-- CMP, (indirect),Y (R169). -/
def execCmpIndY (zp : Byte) (st : State) : Result :=
  readOperand 0xD1#8 (atIndY zp) spoilCZN cmpA st

/-- CPX, immediate (R170). -/
def execCpxImm (imm : Byte) (st : State) : Result :=
  .next (cmpX imm st)

/-- CPX, zero page (R170). -/
def execCpxZp (zp : Byte) (st : State) : Result :=
  readOperand 0xE4#8 (atZp zp) spoilCZN cmpX st

/-- CPX, absolute (R170). -/
def execCpxAbs (addr : Addr) (st : State) : Result :=
  readOperand 0xEC#8 (atAbs addr) spoilCZN cmpX st

/-- CPY, immediate (R171). -/
def execCpyImm (imm : Byte) (st : State) : Result :=
  .next (cmpY imm st)

/-- CPY, zero page (R171). -/
def execCpyZp (zp : Byte) (st : State) : Result :=
  readOperand 0xC4#8 (atZp zp) spoilCZN cmpY st

/-- CPY, absolute (R171). -/
def execCpyAbs (addr : Addr) (st : State) : Result :=
  readOperand 0xCC#8 (atAbs addr) spoilCZN cmpY st

/-- BIT, zero page (R172). -/
def execBitZp (zp : Byte) (st : State) : Result :=
  readOperand 0x24#8 (atZp zp) spoilZVN bitTest st

/-- BIT, absolute (R172). -/
def execBitAbs (addr : Addr) (st : State) : Result :=
  readOperand 0x2C#8 (atAbs addr) spoilZVN bitTest st

/-- INC, zero page (R173). -/
def execIncZp (zp : Byte) (st : State) : Result :=
  modifyOperand 0xE6#8 (atZp zp) spoilZN incremented flagsZN st

/-- INC, zero page,X (R173). -/
def execIncZpX (zp : Byte) (st : State) : Result :=
  modifyOperand 0xF6#8 (atZpX zp) spoilZN incremented flagsZN st

/-- INC, absolute (R173). -/
def execIncAbs (addr : Addr) (st : State) : Result :=
  modifyOperand 0xEE#8 (atAbs addr) spoilZN incremented flagsZN st

/-- INC, absolute,X (R173). -/
def execIncAbsX (addr : Addr) (st : State) : Result :=
  modifyOperand 0xFE#8 (atAbsX addr) spoilZN incremented flagsZN st

/-- DEC, zero page (R174). -/
def execDecZp (zp : Byte) (st : State) : Result :=
  modifyOperand 0xC6#8 (atZp zp) spoilZN decremented flagsZN st

/-- DEC, zero page,X (R174). -/
def execDecZpX (zp : Byte) (st : State) : Result :=
  modifyOperand 0xD6#8 (atZpX zp) spoilZN decremented flagsZN st

/-- DEC, absolute (R174). -/
def execDecAbs (addr : Addr) (st : State) : Result :=
  modifyOperand 0xCE#8 (atAbs addr) spoilZN decremented flagsZN st

/-- DEC, absolute,X (R174). -/
def execDecAbsX (addr : Addr) (st : State) : Result :=
  modifyOperand 0xDE#8 (atAbsX addr) spoilZN decremented flagsZN st

/-- INX (R175). -/
def execInx (st : State) : Result :=
  .next (loadX (st.x + 1#8) st)

/-- INY (R176). -/
def execIny (st : State) : Result :=
  .next (loadY (st.y + 1#8) st)

/-- DEX (R177). -/
def execDex (st : State) : Result :=
  .next (loadX (st.x - 1#8) st)

/-- DEY (R178). -/
def execDey (st : State) : Result :=
  .next (loadY (st.y - 1#8) st)

end Sys2Proof.Machine
end

