-- ==== Sys2Proof/Machine/ControlFlow.lean ====
section
/-! DEFINITION. Branches, jumps, subroutine call and return (43_control_flow.md R190 to R201). In each meaning PC already
points at the next instruction (00_scope.md R10). -/

namespace Sys2Proof.Machine

/-- A branch with displacement `d`: the operand has been fetched whether or not it is taken; penalty 1 if taken, 2 if the
target lies in another page than `BRANCH_PAGE_REF`, the next instruction (R190; 30_encoding.md R114). -/
def branch (cond : Bool) (d : Byte) (st : State) : State :=
  let target := st.pc + sext16 d
  if cond then (st.setPenalty (if hiByte target != hiByte (Config.branchPageRef st.pc) then 2 else 1)).setPc target else st

/-- BCC (R191). -/
def execBcc (disp : Byte) (st : State) : Result :=
  .next (branch (!st.p.c) disp st)

/-- BCS (R192). -/
def execBcs (disp : Byte) (st : State) : Result :=
  .next (branch st.p.c disp st)

/-- BEQ (R193). -/
def execBeq (disp : Byte) (st : State) : Result :=
  .next (branch st.p.z disp st)

/-- BMI (R194). -/
def execBmi (disp : Byte) (st : State) : Result :=
  .next (branch st.p.n disp st)

/-- BNE (R195). -/
def execBne (disp : Byte) (st : State) : Result :=
  .next (branch (!st.p.z) disp st)

/-- BPL (R196). -/
def execBpl (disp : Byte) (st : State) : Result :=
  .next (branch (!st.p.n) disp st)

/-- BVC (R197). -/
def execBvc (disp : Byte) (st : State) : Result :=
  .next (branch (!st.p.v) disp st)

/-- BVS (R198). -/
def execBvs (disp : Byte) (st : State) : Result :=
  .next (branch st.p.v disp st)

/-- JMP through a pointer: the two reads of the indirect mode, the high byte from the same page as the low one (30_encoding.md
R111). -/
def jumpThrough (ptr : Addr) (st : State) : Result :=
  readThen ptr State.spoilPc
    (fun tlo t =>
      readThen (addrOf (hiByte ptr) (loByte ptr + 1#8)) State.spoilPc (fun thi u => .next (u.setPc (addrOf thi tlo))) t)
    st

/-- JMP, absolute (R199). -/
def execJmpAbs (addr : Addr) (st : State) : Result :=
  .next (st.setPc addr)

/-- JMP, indirect (R199). -/
def execJmpInd (ptr : Addr) (st : State) : Result :=
  jumpThrough ptr st

/-- JSR (R200). -/
def execJsr (addr : Addr) (st : State) : Result :=
  .next (stackEnd ((pushAddr (st.pc - 1#16) (stackBegin st)).setPc addr))

/-- RTS (R201). -/
def execRts (st : State) : Result :=
  let t := pulled (stackBegin st)
  let u := pulled t
  .next (stackEnd (u.setPc (addrOf u.popped t.popped + 1#16)))

end Sys2Proof.Machine
end

