-- ==== Sys2Proof/Machine/ShiftRotate.lean ====
section
/-! DEFINITION. Shifts and rotates (42_shift_rotate.md R180 to R184). -/

namespace Sys2Proof.Machine

/-- The accumulator forms: `M <- A`, the result to A, C and SetZN (R180). -/
def shiftA (compute : Byte → State → ShiftResult) (st : State) : State :=
  let r := compute st.a st
  (st.setA r.r).setP (st.p.setCZN r.carry r.r)

/-- The flags of a shift or rotate (R180). -/
def flagsCZN (r : ShiftResult) (p : Flags) : Flags := p.setCZN r.carry r.r

/-- ASL's result (R181). -/
def asl (m : Byte) (_ : State) : ShiftResult := shiftLeft m

/-- LSR's result (R182). -/
def lsr (m : Byte) (_ : State) : ShiftResult := shiftRight m

/-- ROL's result, with C before the instruction (R183). -/
def rol (m : Byte) (st : State) : ShiftResult := rotateLeft st.p.c m

/-- ROR's result, with C before the instruction (R184). -/
def ror (m : Byte) (st : State) : ShiftResult := rotateRight st.p.c m

/-- ASL, accumulator (R181). -/
def execAslAcc (st : State) : Result :=
  .next (shiftA asl st)

/-- ASL, zero page (R181). -/
def execAslZp (zp : Byte) (st : State) : Result :=
  modifyOperand 0x06#8 (atZp zp) spoilCZN asl flagsCZN st

/-- ASL, zero page,X (R181). -/
def execAslZpX (zp : Byte) (st : State) : Result :=
  modifyOperand 0x16#8 (atZpX zp) spoilCZN asl flagsCZN st

/-- ASL, absolute (R181). -/
def execAslAbs (addr : Addr) (st : State) : Result :=
  modifyOperand 0x0E#8 (atAbs addr) spoilCZN asl flagsCZN st

/-- ASL, absolute,X (R181). -/
def execAslAbsX (addr : Addr) (st : State) : Result :=
  modifyOperand 0x1E#8 (atAbsX addr) spoilCZN asl flagsCZN st

/-- LSR, accumulator (R182). -/
def execLsrAcc (st : State) : Result :=
  .next (shiftA lsr st)

/-- LSR, zero page (R182). -/
def execLsrZp (zp : Byte) (st : State) : Result :=
  modifyOperand 0x46#8 (atZp zp) spoilCZN lsr flagsCZN st

/-- LSR, zero page,X (R182). -/
def execLsrZpX (zp : Byte) (st : State) : Result :=
  modifyOperand 0x56#8 (atZpX zp) spoilCZN lsr flagsCZN st

/-- LSR, absolute (R182). -/
def execLsrAbs (addr : Addr) (st : State) : Result :=
  modifyOperand 0x4E#8 (atAbs addr) spoilCZN lsr flagsCZN st

/-- LSR, absolute,X (R182). -/
def execLsrAbsX (addr : Addr) (st : State) : Result :=
  modifyOperand 0x5E#8 (atAbsX addr) spoilCZN lsr flagsCZN st

/-- ROL, accumulator (R183). -/
def execRolAcc (st : State) : Result :=
  .next (shiftA rol st)

/-- ROL, zero page (R183). -/
def execRolZp (zp : Byte) (st : State) : Result :=
  modifyOperand 0x26#8 (atZp zp) spoilCZN rol flagsCZN st

/-- ROL, zero page,X (R183). -/
def execRolZpX (zp : Byte) (st : State) : Result :=
  modifyOperand 0x36#8 (atZpX zp) spoilCZN rol flagsCZN st

/-- ROL, absolute (R183). -/
def execRolAbs (addr : Addr) (st : State) : Result :=
  modifyOperand 0x2E#8 (atAbs addr) spoilCZN rol flagsCZN st

/-- ROL, absolute,X (R183). -/
def execRolAbsX (addr : Addr) (st : State) : Result :=
  modifyOperand 0x3E#8 (atAbsX addr) spoilCZN rol flagsCZN st

/-- ROR, accumulator (R184). -/
def execRorAcc (st : State) : Result :=
  .next (shiftA ror st)

/-- ROR, zero page (R184). -/
def execRorZp (zp : Byte) (st : State) : Result :=
  modifyOperand 0x66#8 (atZp zp) spoilCZN ror flagsCZN st

/-- ROR, zero page,X (R184). -/
def execRorZpX (zp : Byte) (st : State) : Result :=
  modifyOperand 0x76#8 (atZpX zp) spoilCZN ror flagsCZN st

/-- ROR, absolute (R184). -/
def execRorAbs (addr : Addr) (st : State) : Result :=
  modifyOperand 0x6E#8 (atAbs addr) spoilCZN ror flagsCZN st

/-- ROR, absolute,X (R184). -/
def execRorAbsX (addr : Addr) (st : State) : Result :=
  modifyOperand 0x7E#8 (atAbsX addr) spoilCZN ror flagsCZN st

end Sys2Proof.Machine
end

