-- ==== Sys2Proof/Machine/StackFlags.lean ====
section
/-! DEFINITION. Stack instructions and flag instructions (44_stack_and_flags.md R213 to R223). -/

namespace Sys2Proof.Machine

/-- PHA (R213). -/
def execPha (st : State) : Result :=
  .next (stackEnd (push st.a (stackBegin st)))

/-- PHP (R214). -/
def execPhp (st : State) : Result :=
  .next (stackEnd (push (st.p.pushed true) (stackBegin st)))

/-- PLA (R215). -/
def execPla (st : State) : Result :=
  let t := pulled (stackBegin st)
  .next (stackEnd (loadA t.popped t))

/-- PLP (R216). -/
def execPlp (st : State) : Result :=
  let t := pulled (stackBegin st)
  .next (stackEnd (t.setP (t.p.load t.popped)))

/-- CLC (R217). -/
def execClc (st : State) : Result :=
  .next (st.setP { st.p with c := false })

/-- SEC (R218). -/
def execSec (st : State) : Result :=
  .next (st.setP { st.p with c := true })

/-- CLI (R219). -/
def execCli (st : State) : Result :=
  .next (st.setP { st.p with i := false })

/-- SEI (R220). -/
def execSei (st : State) : Result :=
  .next (st.setP { st.p with i := true })

/-- CLD (R221). -/
def execCld (st : State) : Result :=
  .next (st.setP { st.p with d := false })

/-- SED (R222). -/
def execSed (st : State) : Result :=
  .next (st.setP { st.p with d := true })

/-- CLV (R223). -/
def execClv (st : State) : Result :=
  .next (st.setP { st.p with v := false })

end Sys2Proof.Machine
end

