-- ==== Sys2Proof/Machine/System.lean ====
section
/-! DEFINITION. System instructions (45_system.md R230 to R232). In each meaning PC already points past the opcode byte
(00_scope.md R10). -/

namespace Sys2Proof.Machine

/-- BRK (R230; 60_exceptions.md R357). -/
def execBrk (st : State) : Result :=
  enterInterrupt (st.pc + 1#16) true Config.vecIrq id State.spoilPc st

/-- RTI (R231). -/
def execRti (st : State) : Result :=
  .next (returnFromInterrupt st)

/-- NOP (R232). -/
def execNop (st : State) : Result :=
  .next st

end Sys2Proof.Machine
end

