-- ==== Sys2Proof/Machine/RunLoop.lean ====
section
/-! DEFINITION. Fetching an instruction's bytes, one turn of the `run` loop, and the delivery of a pending NMI
(60_exceptions.md R351, R353 to R356; 20_memory.md R61, R77). -/

namespace Sys2Proof.Machine

/-- Why an instruction byte cannot be fetched. -/
inductive FetchStop where
  /-- 0x2000 to 0x7FFF has no meaning as a place to fetch from (20_memory.md R77). -/
  | refused
  /-- No cartridge is injected (48_bus.md R300; 60_exceptions.md R350). -/
  | busFault
  deriving DecidableEq, Repr

/-- One byte of the instruction stream: RAM or ROM, whose reads have no side effect (20_memory.md R66, R75, R77). -/
def fetchByte (a : Addr) (st : State) : Except FetchStop Byte :=
  match windowOf a with
  | .ram => .ok (st.readRam a)
  | .ppu => .error .refused
  | .undecoded => .error .refused
  | .mapperRam => .error .refused
  | .mapperRom =>
    match mapperRead (fun c => c.readROM a.toNat) st with
    | .ok v _ => .ok v
    | .failed _ => .error .busFault
    | .fatal => .error .busFault

/-- `n` bytes of the instruction stream from `a` up, modulo 65536 (20_memory.md R61; 30_encoding.md R101). -/
def fetchBytes : Nat → Addr → State → Except FetchStop (List Byte)
  | 0, _, _ => .ok []
  | n + 1, a, st =>
    match fetchByte a st with
    | .error e => .error e
    | .ok b =>
      match fetchBytes n (a + 1#16) st with
      | .error e => .error e
      | .ok bs => .ok (b :: bs)

/-- How many clocks the `run` call in progress has spent; 0 in the host's single step. -/
def spentSoFar (r : Option RunCall) : Nat := (r.map RunCall.spent).getD 0

/-- The budget test, on the base cost; the host's single step has a budget that fits (60_exceptions.md R356, R366). -/
def overBudget (r : Option RunCall) (cost : Nat) : Bool :=
  match r with
  | none => false
  | some c => decide (c.spent + cost > c.budget)

/-- `run` returns `clocks`. -/
def endRun (clocks : Nat) (st : State) : State := { st with run := none, returned := .clocks clocks }

/-- PC has passed an instruction of `length` bytes, and what is local to one instruction starts clear (30_encoding.md R101;
10_state.md R34; 44_stack_and_flags.md R212; log 21). -/
def beginInstr (length : Nat) (st : State) : State :=
  { st with pc := st.pc + BitVec.ofNat 16 length, penalty := 0, stackFault := false, busFault := false }

/-- After an instruction or entry of base cost `cost` in state `t`: its clocks are counted (free after a BusFault, log 14),
what was local to it is cleared, and `run` goes on if the CPU is still running (60_exceptions.md R356). -/
def settle (r : Option RunCall) (cost : Nat) (t : State) : State :=
  let clocks := if t.busFault then Config.freeClocks t.draws else spentSoFar r + cost + t.penalty
  let u := { (if t.busFault then t.drawn else t) with penalty := 0, stackFault := false, busFault := false }
  match r with
  | none => endRun clocks u
  | some c => if t.runState = .running then { u with run := some { c with spent := clocks } } else endRun clocks u

/-- Apply `f` to a next state. -/
def onNext (f : State → State) : Result → Result
  | .next t => .next (f t)
  | .fault e => .fault e
  | .refused e => .refused e

/-- An undefined opcode: PC one past the byte, Error, 0 clocks, nothing else (30_encoding.md R117; 60_exceptions.md R351). -/
def undefinedOpcode (r : Option RunCall) (st : State) : State :=
  endRun (spentSoFar r) { st with pc := st.pc + 1#16, runState := .error }

/-- What follows from a byte that cannot be fetched: a refusal (20_memory.md R77) or a BusFault with PC unspecified (00_scope.md
R11, log 2). -/
def fetchFailed (r : Option RunCall) (e : FetchStop) (st : State) : Result :=
  match e with
  | .refused => .refused .fetchRegion
  | .busFault => .next (settle r 0 st.spoilPc.busError)

/-- One turn of the `run` loop in run state Running, with the `run` call in progress or none for a single step of the host
(60_exceptions.md R356): look at the opcode, test the budget, fetch the operand bytes, execute. -/
def runOne (r : Option RunCall) (st : State) : Result :=
  match fetchByte st.pc st with
  | .error e => fetchFailed r e st
  | .ok op =>
    match opcodeRow op with
    | none => .next (undefinedOpcode r st)
    | some row =>
      if overBudget r row.cycles then .next (endRun (spentSoFar r) st)
      else
        match fetchBytes row.mode.operandBytes (st.pc + 1#16) st with
        | .error e => fetchFailed r e st
        | .ok operands =>
          match decode (op :: operands) with
          | .error _ => .next (undefinedOpcode r st)
          | .ok (i, _) => onNext (settle r row.cycles) (exec i (beginInstr (1 + row.mode.operandBytes) st))

/-- The delivery of the pending NMI: "the entry is made whatever the budget" (60_exceptions.md R355). -/
def deliverNmi (r : Option RunCall) (st : State) : Result :=
  onNext (settle r Config.intCost) (nmiEntry (beginInstr 0 { st with nmiPending := false }))

/-- The host's call `run(budget)`, up to its first instruction (60_exceptions.md R355, R356). -/
def startRun (budget : Nat) (st : State) : Result :=
  if st.runState ≠ .running then .next (endRun 0 st)
  else if st.nmiPending then deliverNmi (some { budget := budget, spent := 0 }) st
  else .next { st with run := some { budget := budget, spent := 0 } }

/-- One turn of a `run` call in progress (60_exceptions.md R356). -/
def continueRun (c : RunCall) (st : State) : Result :=
  if st.runState ≠ .running then .next (endRun c.spent st) else runOne (some c) st

/-- The host's single step: one instruction, or the entry of a pending NMI (60_exceptions.md R356, R366; 00_scope.md R6).
DESIGN CHOICE (log 9): it ends there. R366's `run` with a budget equal to the base cost would in the same call also look at the
opcode byte that follows and put the CPU in Error where it is undefined (R356); here that look is the next step's. Unsafe for a
claim that takes one such step for the whole call. -/
def singleStep (st : State) : Result :=
  if st.runState ≠ .running then .next (endRun 0 st)
  else if st.nmiPending then deliverNmi none st
  else runOne none st

/-- A cartridge with one byte stored where `readROM` finds it (49_mapper.md R322). -/
def Cartridge.placeByte (c : Cartridge) (addr : Nat) (v : Byte) : Cartridge :=
  { c with rom := c.rom.write (if addr < Config.fixedBase then addr - Config.romBase else c.lastPage (addr - Config.fixedBase)) v }

/-- A byte stored where an instruction fetch finds it: RAM, or the cartridge's ROM page of that address. -/
def placeByte (a : Addr) (v : Byte) (st : State) : State :=
  match windowOf a with
  | .ram => st.writeRam a v
  | .ppu => st
  | .undecoded => st
  | .mapperRam => st
  | .mapperRom => { st with cart := st.cart.map (fun c => c.placeByte a.toNat v) }

/-- A state whose next step fetches at PC: the CPU runs, no host call is due, no NMI is pending, and PC is where three bytes can
be fetched (0x0000 where it is not). -/
def readyToFetch (st : State) : State :=
  { st with
    runState := .running, nmiPending := false, calls := [], run := none
    cart := some (st.cart.getD Cartridge.blank)
    pc := if st.pc.toNat + 2 ≤ Config.ramWindowEnd ∨ Config.romBase ≤ st.pc.toNat then st.pc else 0x0000#16 }

end Sys2Proof.Machine
end

