-- ==== Sys2Proof/Machine/HostCalls.lean ====
section
/-! DEFINITION. What each call of the host does (70_reset_and_hazards.md R400, R404; 60_exceptions.md R352, R353). -/

namespace Sys2Proof.Machine

/-- A host call returns `v`. -/
def returning (v : Returned) (st : State) : State := { st with returned := v }

/-- The register part of `reset()` (70_reset_and_hazards.md R400, log 5). -/
def resetRegisters (st : State) : State :=
  { st with
    a := Config.resetA, x := Config.resetX, y := Config.resetY, s := Config.resetS
    p :=
      { c := Config.resetP.getLsbD 0, z := Config.resetP.getLsbD 1, i := true, d := Config.resetP.getLsbD 3, b := false
        v := Config.resetP.getLsbD 6, n := Config.resetP.getLsbD 7 }
    nmiPending := false, penalty := 0 }

/-- `reset()` (70_reset_and_hazards.md R400): the registers, then PC from the reset vector, then Running. If a vector read
fails, Error and PC unspecified. -/
def resetCpu (st : State) : Result :=
  onNext (fun t => { t with busFault := false, returned := .nothing })
    (readThen Config.vecReset State.spoilPc
      (fun lo t =>
        readThen (Config.vecReset + 1#16) State.spoilPc
          (fun hi u => .next ((u.setPc (addrOf hi lo)).setRunState .running)) t)
      (resetRegisters st))

/-- `IRQ()` (60_exceptions.md R352): refused and forgotten unless Running with I clear. -/
def hostIrq (st : State) : Result :=
  if st.runState ≠ .running ∨ st.p.i = true then .next (returning (.clocks 0) st)
  else onNext (settle none Config.intCost) (irqEntry (beginInstr 0 st))

/-- `NMI()` (60_exceptions.md R353): acts at once, does not touch `nmi_pending`. -/
def hostNmi (st : State) : Result :=
  if st.runState ≠ .running then .next (returning (.clocks 0) st)
  else onNext (settle none Config.intCost) (nmiEntry (beginInstr 0 st))

/-- A read of the host through the bus: its value or its failure is returned; a fatal read stops the machine (R404). -/
def hostRead (r : Access Byte) (st : State) : Result :=
  match r with
  | .ok v t => .next (returning (.byte v) t)
  | .failed f => .next (returning (.failed f) st)
  | .fatal => .fault .fatalVrom

/-- A write of the host through the bus (R404). -/
def hostWrite (r : Access Unit) (st : State) : Result :=
  match r with
  | .ok _ t => .next (returning .nothing t)
  | .failed f => .next (returning (.failed f) st)
  | .fatal => .fault .fatalVrom

/-- A mapper operation of the host: it fails if no cartridge is injected (48_bus.md R300). -/
def hostMapper (op : Cartridge → Result) (st : State) : Result :=
  match st.cart with
  | none => .next (returning (.failed .noCartridge) st)
  | some c => op c

/-- What a mapper read returned. -/
def mapperByte (r : Except Failure Byte) : Returned :=
  match r with
  | .ok v => .byte v
  | .error f => .failed f

/-- What a mapper write returned. -/
def mapperUnit (r : Except Failure Unit) : Returned :=
  match r with
  | .ok _ => .nothing
  | .error f => .failed f

/-- `flash` on the injected cartridge (49_mapper.md R326, log 17). -/
def hostFlash (addr : Nat) (buffer : List Byte) (c : Cartridge) (st : State) : State :=
  let r := c.flash (Config.freeBit st.draws) addr buffer
  returning (match r.1 with | none => .nothing | some f => .failed f) { st.drawn with cart := some r.2 }

/-- `readVROM` called by the host (49_mapper.md R325). -/
def hostReadVROM (addr : Nat) (c : Cartridge) (st : State) : Result :=
  match c.readVROM addr with
  | none => .fault .fatalVrom
  | some v => .next (returning (.byte v) st)

/-- One call of the host (70_reset_and_hazards.md R404). -/
def hostCall (call : HostCall) (st : State) : Result :=
  match call with
  | .run budget => startRun budget st
  | .reset => resetCpu st
  | .irq => hostIrq st
  | .nmi => hostNmi st
  | .update => onNext (returning .nothing) (updateFrame st)
  | .state => .next (returning (.runState st.runState) st)
  | .snapshot => .next (returning (.registers st.a st.x st.y st.s (st.p.toByte &&& 0xEF#8) st.pc) st)
  | .counters => .next (returning (.counters st.nmiCount st.rtiCount) st)
  | .readMem a => hostRead (memRead a st) st
  | .writeMem a v => hostWrite (memWrite a v st) st
  | .readVideoMem a => hostRead (vidRead a.toNat st) st
  | .writeVideoMem a v => hostWrite (vidWrite a.toNat v st) st
  | .readSpriteMem i => .next (returning (.byte (sprRead i st)) st)
  | .writeSpriteMem i v => .next (returning .nothing (sprWrite i v st))
  | .generateNMI => .next (returning .nothing (generateNmi st))
  | .injectCartridge c => .next (returning .nothing { st with cart := some c })
  | .getMode => .next (returning (.mode st.mode) st)
  | .setMode m => .next (returning .nothing { st with mode := m })
  | .flash addr buffer => hostMapper (fun c => .next (hostFlash addr buffer c st)) st
  | .readROM addr => hostMapper (fun c => .next (returning (mapperByte (c.readROM addr.toNat)) st)) st
  | .readRAM addr => hostMapper (fun c => .next (returning (mapperByte (c.readRAM addr.toNat)) st)) st
  | .writeRAM addr v => hostMapper (fun c => .next (returning (mapperUnit (c.writeRAM addr.toNat v)) st)) st
  | .readVROM addr => hostMapper (fun c => hostReadVROM addr c st) st

/-- One step of the machine (00_scope.md R6; 48_bus.md R305): a turn of the `run` call in progress, else the host's next call,
else, when the host has no further call listed, a single step of the CPU (log 9). -/
def stepMachine (st : State) : Result :=
  match st.run with
  | some c => continueRun c st
  | none =>
    match st.calls with
    | call :: rest => hostCall call { st with calls := rest }
    | [] => singleStep st

end Sys2Proof.Machine
end

