-- ==== Sys2Proof/Machine/Step.lean ====
section
/-! DEFINITION. The step of the machine, and the placing of one instruction where the next step fetches it. -/

namespace Sys2Proof.Machine

/-- One step: one whole instruction or interrupt entry of the CPU, one frame of the PPU, or one other call of the host
(00_scope.md R6). -/
def step (s : State) : Host.Outcome State Fault Refusal := stepMachine s

/-- `s` with the instruction whose bits are `w` (bits from `nbits` up are 0) stored at PC, so that the next step fetches and runs
it (log 7). It stands for the loading of a program from outside the machine. -/
def State.withFetchWord (s : State) (nbits w : Nat) : State :=
  let v := w % 2 ^ nbits
  let t := readyToFetch s
  placeByte (t.pc + 2#16) (BitVec.ofNat 8 (v / 65536))
    (placeByte (t.pc + 1#16) (BitVec.ofNat 8 (v / 256)) (placeByte t.pc (BitVec.ofNat 8 v) t))

end Sys2Proof.Machine
end

