-- ==== Sys2Proof/Safety.lean ====
section
/-! DEFINITION. What counts as a safe step and as the end of a program, and the invariants of the machine, in the terms claims
use. -/

namespace Sys2Proof.Machine

/-- The CPU has not ended in Error: "Ending in `Error` is a fault, not an end" (70_reset_and_hazards.md R405). A claim about a
final state has this as a premise or a conclusion (log 1). -/
def State.Sound (s : State) : Prop := s.runState ≠ .error

/-- A step that neither stops the machine nor puts the CPU in Error. -/
def SafeStep (s : State) : Prop := ∃ t, step s = .next t ∧ t.Sound

/-- The end of a program: Running, with PC at a 4C whose operand is its own address (70_reset_and_hazards.md R405). -/
def State.Finished (s : State) : Prop :=
  s.runState = .running ∧ fetchBytes 3 s.pc s = .ok [0x4C#8, loByte s.pc, hiByte s.pc]

/-- Every memory is canonical and within its size, the injected cartridge's and those the host has still to inject too
(10_state.md R41 to R44; 49_mapper.md R321). -/
def State.MemoriesCanonical (s : State) : Prop :=
  s.ram.wfIn Config.ramSize ∧ s.nt.wfIn 0x1000 ∧ s.pal.wfIn 32 ∧ s.spr.wfIn 256 ∧
    (∀ c, s.cart = some c → c.wf) ∧ (∀ c, HostCall.injectCartridge c ∈ s.calls → c.wf)

/-- The stored B is 0, 8x16 sprites are not enabled, and nothing that is local to one instruction is set between steps
(10_state.md R22, R34; 44_stack_and_flags.md R212; 46_ppu_registers.md R241). -/
def State.ControlInvariant (s : State) : Prop :=
  s.p.b = false ∧ s.ppu.sprSize = false ∧ s.penalty = 0 ∧ s.stackFault = false ∧ s.busFault = false

/-- A `run` in progress has spent at most its budget plus 2, or the clocks of the NMI entry it began with (60_exceptions.md
R356). -/
def State.RunInvariant (s : State) : Prop :=
  ∀ c, s.run = some c → c.spent ≤ max (c.budget + 2) Config.intCost

end Sys2Proof.Machine
end

