-- ==== Sys2Proof/Certificates/Slice0/Obligations.lean ====
section
/-! DEFINITION. The statements for the provers. -/

namespace Sys2Proof.Claims

open Sys2Proof Sys2Proof.Machine

/-- The Encoding line of an instruction (30_encoding.md R116, R120): each entry is an instruction, its bytes, its addressing
mode, its base cost, and whether it is penalty-eligible. -/
def Codes (l : List (Instr × List Byte × Mode × Nat × Bool)) : Prop :=
  ∀ e ∈ l, encode e.1 = e.2.1 ∧
    ∃ r, opcodeRow e.1.opcode = some r ∧ r.mode = e.2.2.1 ∧ r.cycles = e.2.2.2.1 ∧ r.pagePenalty = e.2.2.2.2

/-- The mnemonic and the mode of an instruction's row in the opcode table. -/
def mnemonicOf (i : Instr) : String := ((opcodeRow i.opcode).map OpRow.mnemonic).getD ""
def modeOf (i : Instr) : Mode := ((opcodeRow i.opcode).map OpRow.mode).getD .implied

/-- `s` after a BusFault whose unspecified parts are those of `t`: Error, everything else as in `s`. 00_scope.md R11 gives the
Error and what is unspecified; that the rest is a next state of the model, and which parts stay, is the model's choice
(notes/assumptions 1 and 2). -/
def busFaulted (s t : State) : State := { s with runState := .error, busFault := true, draws := t.draws }

/-- A read instruction in one memory form. With a readable operand byte it completes with `effect`. If the bus refuses the
read it ends in Error, and `opened c t` is the state `c` before the read but for what is unspecified, which it takes from `t`
(notes/assumptions 1 and 2). If the read is fatal the machine stops. -/
def Reads (form : State → Place) (i : Instr) (effect : Byte → State → State) (opened : State → State → State) : Prop :=
  ∀ s, (∀ m t, memRead (form s).ea ((form s).charge i.opcode s) = .ok m t → exec i s = .next (effect m t)) ∧
    (∀ f, memRead (form s).ea ((form s).charge i.opcode s) = .failed f →
      ∃ t, exec i s = .next t ∧ t = busFaulted (opened ((form s).charge i.opcode s) t) t) ∧
    (memRead (form s).ea ((form s).charge i.opcode s) = .fatal → exec i s = .fault .fatalVrom)

/-- A store in one memory form: with a writable byte it completes, and changes nothing but what the bus write changes. If the
bus refuses the write it ends in Error and changes nothing else (notes/assumptions 1 and 2). -/
def Stores (form : State → Place) (i : Instr) (v : State → Byte) : Prop :=
  ∀ s, (∀ t, memWrite (form s).ea (v s) s = .ok () t → exec i s = .next t) ∧
    (∀ f, memWrite (form s).ea (v s) s = .failed f → exec i s = .next { s with runState := .error, busFault := true })

/-- A read-modify-write instruction in one memory form: `compute m p` gives the byte written and the flags after.
What is left after a refused access is the model's choice (notes/assumptions 1 and 2). -/
def Modifies (form : State → Place) (i : Instr) (compute : Byte → Flags → Byte × Flags)
    (opened : State → State → State) : Prop :=
  ∀ s, (∀ m t u, memRead (form s).ea s = .ok m t → memWrite (form s).ea (compute m t.p).1 t = .ok () u →
      exec i s = .next { u with p := (compute m t.p).2 }) ∧
    (∀ m t f, memRead (form s).ea s = .ok m t → memWrite (form s).ea (compute m t.p).1 t = .failed f →
      ∃ w, exec i s = .next w ∧ w = busFaulted (opened t w) w) ∧
    (∀ f, memRead (form s).ea s = .failed f → ∃ w, exec i s = .next w ∧ w = busFaulted (opened s w) w) ∧
    (memRead (form s).ea s = .fatal → exec i s = .fault .fatalVrom)

/-- Z and N as `SetZN(v)` sets them (41_arithmetic_logic.md R161). -/
def zn (p : Flags) (v : Byte) : Flags := { p with z := decide (v = 0#8), n := v.getLsbD 7 }

/-- What a load or transfer into A, X, Y leaves. -/
def withA (v : Byte) (s : State) : State := { s with a := v, p := zn s.p v }
def withX (v : Byte) (s : State) : State := { s with x := v, p := zn s.p v }
def withY (v : Byte) (s : State) : State := { s with y := v, p := zn s.p v }

/-- What is unspecified after a BusFault, by what the instruction writes. -/
def openAZN (c t : State) : State := { c with a := t.a, p := { c.p with z := t.p.z, n := t.p.n } }
def openXZN (c t : State) : State := { c with x := t.x, p := { c.p with z := t.p.z, n := t.p.n } }
def openYZN (c t : State) : State := { c with y := t.y, p := { c.p with z := t.p.z, n := t.p.n } }
def openAll (c t : State) : State :=
  { c with a := t.a, p := { c.p with c := t.p.c, z := t.p.z, v := t.p.v, n := t.p.n } }
def openCZN (c t : State) : State := { c with p := { c.p with c := t.p.c, z := t.p.z, n := t.p.n } }
def openZVN (c t : State) : State := { c with p := { c.p with z := t.p.z, v := t.p.v, n := t.p.n } }
def openZN (c t : State) : State := { c with p := { c.p with z := t.p.z, n := t.p.n } }

/-- The signed reading of a byte (R160). -/
def signed (v : Byte) : Int := if v.toNat < 128 then (v.toNat : Int) else (v.toNat : Int) - 256

/-- The result of ADC with operand `m` (R164, R179 (a), (d)). -/
def added (m : Byte) (s : State) : State :=
  let sum := s.a.toNat + m.toNat + s.p.c.toNat
  let r := BitVec.ofNat 8 sum
  let exact := signed s.a + signed m + (s.p.c.toNat : Int)
  { s with a := r, p := { zn s.p r with c := decide (sum > 0xFF), v := decide (exact < -128 ∨ exact > 127) } }

/-- The result of SBC with operand `m` (R165, R179 (b), (e)). -/
def subtracted (m : Byte) (s : State) : State :=
  let borrow := 1 - s.p.c.toNat
  let r := BitVec.ofNat 8 (s.a.toNat + 256 - m.toNat - borrow)
  let exact := signed s.a - signed m - (borrow : Int)
  { s with
    a := r
    p := { zn s.p r with c := decide (s.a.toNat ≥ m.toNat + borrow), v := decide (exact < -128 ∨ exact > 127) } }

/-- The flags of a compare of register value `r` with operand `m` (R169, R179 (c)). -/
def compared (r m : Byte) (s : State) : State :=
  { s with p := { s.p with c := decide (r.toNat ≥ m.toNat), z := decide (r = m), n := (r - m).getLsbD 7 } }

/-- The flags of BIT (R172). -/
def bitTested (m : Byte) (s : State) : State :=
  { s with p := { s.p with z := decide (s.a &&& m = 0#8), n := m.getLsbD 7, v := m.getLsbD 6 } }

/-- The four shifts and rotates of a byte: the result, and the flags (R181 to R184). -/
def shiftedLeft (m : Byte) (p : Flags) : Byte × Flags :=
  let r := BitVec.ofNat 8 (m.toNat * 2)
  (r, { zn p r with c := m.getLsbD 7 })
def shiftedRight (m : Byte) (p : Flags) : Byte × Flags :=
  let r := BitVec.ofNat 8 (m.toNat / 2)
  (r, { zn p r with c := m.getLsbD 0 })
def rotatedLeft (m : Byte) (p : Flags) : Byte × Flags :=
  let r := BitVec.ofNat 8 (m.toNat * 2 + p.c.toNat)
  (r, { zn p r with c := m.getLsbD 7 })
def rotatedRight (m : Byte) (p : Flags) : Byte × Flags :=
  let r := BitVec.ofNat 8 (m.toNat / 2 + p.c.toNat * 0x80)
  (r, { zn p r with c := m.getLsbD 0 })
def plusOne (m : Byte) (p : Flags) : Byte × Flags :=
  let r := BitVec.ofNat 8 ((m.toNat + 1) % 256)
  (r, zn p r)
def minusOne (m : Byte) (p : Flags) : Byte × Flags :=
  let r := BitVec.ofNat 8 ((m.toNat + 255) % 256)
  (r, zn p r)

/-- The accumulator form of a shift or rotate (R180). -/
def ShiftsA (i : Instr) (compute : Byte → Flags → Byte × Flags) : Prop :=
  ∀ s, exec i s = .next { s with a := (compute s.a s.p).1, p := (compute s.a s.p).2 }

/-- The target of a branch at whose end PC is `next` (30_encoding.md R114). -/
def target (next : Addr) (d : Byte) : Addr :=
  BitVec.ofNat 16 (next.toNat + (if d.toNat < 128 then d.toNat else d.toNat + 0xFF00))

/-- A branch on `cond` (43_control_flow.md R190). -/
def Branches (i : Byte → Instr) (cond : Flags → Bool) : Prop :=
  ∀ d s,
    (cond s.p = false → exec (i d) s = .next s) ∧
    (cond s.p = true →
      exec (i d) s = .next { s with
        pc := target s.pc d
        penalty := if (target s.pc d).toNat / 256 ≠ s.pc.toNat / 256 then 2 else 1 })

/-- The RAM key of the byte `k` below S, that is STACK_PAGE + ((S - k) mod 256) (10_state.md R21). -/
def below (s : State) (k : Nat) : Nat := 0x0100 + (s.s.toNat + 256 - k) % 256

/-- The RAM key of the byte `k` above S. -/
def above (s : State) (k : Nat) : Nat := 0x0100 + (s.s.toNat + k) % 256

/-- Error if S wrapped, the run state as it was otherwise (44_stack_and_flags.md R212). -/
def errorIf (w : Bool) (s : State) : RunState := if w then .error else s.runState

/-- The status byte pushed, with bit 5 set and bit 4 as given (10_state.md R22). -/
def statusPushed (p : Flags) (bit4 : Bool) : Byte :=
  BitVec.ofNat 8 (p.n.toNat * 128 + p.v.toNat * 64 + 32 + bit4.toNat * 16 + p.d.toNat * 8 + p.i.toNat * 4 + p.z.toNat * 2
    + p.c.toNat)

/-- The flags popped from `v`, bits 4 and 5 ignored (R216, R231). -/
def flagsFrom (p : Flags) (v : Byte) : Flags :=
  { p with c := v.getLsbD 0, z := v.getLsbD 1, i := v.getLsbD 2, d := v.getLsbD 3, v := v.getLsbD 6, n := v.getLsbD 7 }

/-- The interrupt frame below S, I set, PC at `handler`, Error if S was 0x00, 0x01 or 0x02 (60_exceptions.md R357). -/
def entered (s : State) (ret : Addr) (bit4 : Bool) (handler : Addr) : State :=
  { s with
    ram := ((s.ram.write (below s 0) (hiByte ret)).write (below s 1) (loByte ret)).write (below s 2) (statusPushed s.p bit4)
    s := s.s - 3#8
    p := { s.p with i := true }
    pc := handler
    stackFault := decide (s.s.toNat ≤ 2)
    runState := errorIf (decide (s.s.toNat ≤ 2)) s }

/-- A cartridge is injected whose bytes at `v` and `v + 1` are `lo` and `hi` (20_memory.md R69). -/
def VectorIs (s : State) (v : Nat) (lo hi : Byte) : Prop :=
  ∃ c, s.cart = some c ∧ c.readROM v = .ok lo ∧ c.readROM (v + 1) = .ok hi

/-- The address a store or read-modify-write instruction stores to, by the form its meaning uses. -/
def storedAt : Instr → State → Option Addr
  | .staZp v, s => some (atZp v s).ea
  | .staZpX v, s => some (atZpX v s).ea
  | .staAbs v, s => some (atAbs v s).ea
  | .staAbsX v, s => some (atAbsX v s).ea
  | .staAbsY v, s => some (atAbsY v s).ea
  | .staIndX v, s => some (atIndX v s).ea
  | .staIndY v, s => some (atIndY v s).ea
  | .stxZp v, s => some (atZp v s).ea
  | .stxZpY v, s => some (atZpY v s).ea
  | .stxAbs v, s => some (atAbs v s).ea
  | .styZp v, s => some (atZp v s).ea
  | .styZpX v, s => some (atZpX v s).ea
  | .styAbs v, s => some (atAbs v s).ea
  | .incZp v, s => some (atZp v s).ea
  | .incZpX v, s => some (atZpX v s).ea
  | .incAbs v, s => some (atAbs v s).ea
  | .incAbsX v, s => some (atAbsX v s).ea
  | .decZp v, s => some (atZp v s).ea
  | .decZpX v, s => some (atZpX v s).ea
  | .decAbs v, s => some (atAbs v s).ea
  | .decAbsX v, s => some (atAbsX v s).ea
  | .aslZp v, s => some (atZp v s).ea
  | .aslZpX v, s => some (atZpX v s).ea
  | .aslAbs v, s => some (atAbs v s).ea
  | .aslAbsX v, s => some (atAbsX v s).ea
  | .lsrZp v, s => some (atZp v s).ea
  | .lsrZpX v, s => some (atZpX v s).ea
  | .lsrAbs v, s => some (atAbs v s).ea
  | .lsrAbsX v, s => some (atAbsX v s).ea
  | .rolZp v, s => some (atZp v s).ea
  | .rolZpX v, s => some (atZpX v s).ea
  | .rolAbs v, s => some (atAbs v s).ea
  | .rolAbsX v, s => some (atAbsX v s).ea
  | .rorZp v, s => some (atZp v s).ea
  | .rorZpX v, s => some (atZpX v s).ea
  | .rorAbs v, s => some (atAbs v s).ea
  | .rorAbsX v, s => some (atAbsX v s).ea
  | _, _ => none

/-- How many bytes an instruction pushes. -/
def pushes : Instr → Nat
  | .pha => 1
  | .php => 1
  | .jsr _ => 2
  | .brk => 3
  | _ => 0

/-- The bytes a CPU store to `a` in state `u` can reach: a RAM byte; through slot 7 a nametable or palette byte at `vaddr`;
through slot 4 the sprite byte at `spr_addr` (48_bus.md R301, R306 to R308). -/
def reachesRam (a : Addr) (b : Nat) : Prop := a.toNat < 0x2000 ∧ b % 0x800 = a.toNat % 0x800
def reachesNt (a : Addr) (u : State) (k : Nat) : Prop :=
  0x2000 ≤ a.toNat ∧ a.toNat < 0x4000 ∧ a.toNat % 8 = 7 ∧ 0x2000 ≤ u.ppu.vaddr.toNat % 0x4000 ∧
    u.ppu.vaddr.toNat % 0x4000 < 0x3F00 ∧ k = ntIndex (u.ppu.vaddr.toNat % 0x4000)
def reachesPal (a : Addr) (u : State) (k : Nat) : Prop :=
  0x2000 ≤ a.toNat ∧ a.toNat < 0x4000 ∧ a.toNat % 8 = 7 ∧ 0x3F00 ≤ u.ppu.vaddr.toNat % 0x4000 ∧
    k = palIndex (u.ppu.vaddr.toNat % 0x4000)
def reachesSpr (a : Addr) (u : State) (k : Nat) : Prop :=
  0x2000 ≤ a.toNat ∧ a.toNat < 0x4000 ∧ a.toNat % 8 = 4 ∧ k = u.ppu.sprAddr.toNat

/-- Every byte of every memory that a store to `a` in state `u` does not reach reads in `t` as it did in `u`. -/
def KeepsOtherBytes (a : Addr) (u t : State) : Prop :=
  (∀ b : Addr, ¬ reachesRam a b.toNat → t.readRam b = u.readRam b) ∧
  (∀ k, ¬ reachesNt a u k → t.nt.read k = u.nt.read k) ∧
  (∀ k, ¬ reachesPal a u k → t.pal.read k = u.pal.read k) ∧
  (∀ k, ¬ reachesSpr a u k → t.spr.read k = u.spr.read k) ∧
  t.cart = u.cart

/-- Every byte of every memory is as it was. -/
def KeepsMemory (s t : State) : Prop :=
  t.ram = s.ram ∧ t.nt = s.nt ∧ t.pal = s.pal ∧ t.spr = s.spr ∧ t.cart = s.cart

/-- The host lets the CPU run: Running, no `run` call in progress, no call due, no NMI pending. -/
def Idle (s : State) : Prop := s.runState = .running ∧ s.run = none ∧ s.calls = [] ∧ s.nmiPending = false

/-- The byte of a decoded video address, in the memories themselves (20_memory.md R68, 48_bus.md R306). -/
def videoByte (s : State) (c : Cartridge) (a : Nat) : Byte :=
  if a < 0x2000 then c.vrom.read a
  else if a < 0x3F00 then s.nt.read ((a - 0x2000) % 0x1000)
  else s.pal.read (if a % 32 ∈ [0x10, 0x14, 0x18, 0x1C] then a % 32 - 0x10 else a % 32)

/-- Bit `k` of a byte as a number. -/
def bitOf (v : Byte) (k : Nat) : Nat := v.toNat / 2 ^ k % 2

/-- The colour a byte means to the sink, its low 6 bits (47_ppu_rendering.md R270). -/
def colorIn (v : Byte) : BitVec 6 := BitVec.ofNat 6 v.toNat

/-- The colour entry at row `r` and column `k` of a tile (47_ppu_rendering.md R274). -/
def tileEntry (s : State) (c : Cartridge) (ptbase tile group palbase : Nat) (fliph flipv : Bool) (r k : Nat) : Pixel :=
  let row := ptbase + 16 * tile + (if flipv then 7 - r else r)
  let bit := 7 - (if fliph then 7 - k else k)
  let pix := 2 * bitOf (videoByte s c (row + 8)) bit + bitOf (videoByte s c row) bit
  if pix = 0 then .transparent else .color (colorIn (videoByte s c (palbase + 4 * group + pix)))

/-- The 64 colour entries of a tile, row by row (47_ppu_rendering.md R270, R274). -/
def tileEntries (s : State) (c : Cartridge) (ptbase tile group palbase : Nat) (fliph flipv : Bool) : List Pixel :=
  (List.range 8).flatMap (fun r => (List.range 8).map (tileEntry s c ptbase tile group palbase fliph flipv r))

/-- The palette group of the tile at `tx`, `ty` of a page: of the attribute byte of its 4 x 4 cell, bits 1:0 for the top-left
2 x 2 tiles, 3:2 top-right, 5:4 bottom-left, 7:6 bottom-right (47_ppu_rendering.md R275). -/
def paletteGroup (s : State) (c : Cartridge) (base tx ty : Nat) : Nat :=
  let a := (videoByte s c (base + 0x03C0 + 8 * (ty / 4) + tx / 4)).toNat
  if ty % 4 < 2 then (if tx % 4 < 2 then a % 4 else a / 4 % 4) else if tx % 4 < 2 then a / 16 % 4 else a / 64

/-- The background symbol of row `r`, column `k` (47_ppu_rendering.md R273; ctrl1 bits: 10_state.md R36). -/
def backgroundTile (s : State) (c : Cartridge) (r k : Nat) : SinkCall :=
  let gx := s.ppu.scrollH.toNat / 8 + k
  let gy := s.ppu.scrollV.toNat / 8 + r
  let page := 2 * ((bitOf s.ppu.ctrl1 1 + gy / 30) % 2) + (bitOf s.ppu.ctrl1 0 + gx / 32) % 2
  let base := 0x2000 + 0x0400 * page
  let tile := (videoByte s c (base + 32 * (gy % 30) + gx % 32)).toNat
  .setSymbol .background (8 * (k : Int) - (s.ppu.scrollH.toNat % 8 : Nat)) (8 * (r : Int) - (s.ppu.scrollV.toNat % 8 : Nat))
    (tileEntries s c (0x1000 * bitOf s.ppu.ctrl1 4) tile (paletteGroup s c base (gx % 32) (gy % 30)) 0x3F00 false false)

/-- The symbol of sprite slot `n` (47_ppu_rendering.md R277). -/
def spriteTile (s : State) (c : Cartridge) (n : Nat) : SinkCall :=
  let attr := s.spr.read (4 * n + 2)
  .setSymbol (if bitOf attr 5 = 1 then .behind else .front) (s.spr.read (4 * n + 3)).toNat ((s.spr.read (4 * n)).toNat + 1)
    (tileEntries s c (0x1000 * bitOf s.ppu.ctrl1 3) (s.spr.read (4 * n + 1)).toNat (attr.toNat % 4) 0x3F10
      (attr.getLsbD 6) (attr.getLsbD 7))

/-- The tile rows shown (47_ppu_rendering.md R272, R273). -/
def rowsShown (s : State) : List Nat :=
  match s.mode with
  | .full => List.range (if s.ppu.scrollV.toNat % 8 = 0 then 30 else 31)
  | .short => (List.range 28).map (· + 1)

/-- The next instruction of a run ends in a BusFault: it cannot be fetched for want of a cartridge, or an access of it is
refused (60_exceptions.md R350). The clocks are then the model's free value (notes/assumptions 14). -/
def BusFaultAhead (s : State) : Prop :=
  (s.cart = none ∧ 0x8000 ≤ s.pc.toNat) ∨
    ∃ i u, fetchBytes (encode i).length s.pc s = .ok (encode i) ∧ exec i (beginInstr (encode i).length s) = .next u ∧
      u.busFault = true

end Sys2Proof.Claims

open Sys2Proof Sys2Proof.Machine Sys2Proof.Claims

/-- Decoding an encoded instruction gives it back, whatever bytes follow: 30_encoding.md R100, R101, R116, R121. -/
def Obligations.DecodeOfEncodeIsTheInstruction : Prop :=
  ∀ (i : Instr) (rest : List Byte), i.wellFormed = true → decode (encode i ++ rest) = .ok (i, rest)

/-- Bytes that decode to an instruction are that instruction's encoding followed by the rest: 30_encoding.md R116, R117, R122. -/
def Obligations.EncodeOfDecodeIsTheBytes : Prop :=
  ∀ (bs rest : List Byte) (i : Instr), decode bs = .ok (i, rest) → bs = encode i ++ rest

/-- The undefined opcodes are exactly the 105 bytes R117 lists, and decoding one is rejected by name: 30_encoding.md R117 (the list of undefined bytes), 92_eei_decisions.md D1. -/
def Obligations.UndefinedOpcodesAreThe105Bytes : Prop :=
  ∀ (op : Byte) (rest : List Byte),
    (opcodeRow op = none ↔ op.toNat ∈ [0x02, 0x03, 0x04, 0x07, 0x0B, 0x0C, 0x0F, 0x12, 0x13, 0x14, 0x17, 0x1A, 0x1B, 0x1C, 0x1F, 0x22, 0x23, 0x27, 0x2B, 0x2F, 0x32, 0x33, 0x34, 0x37, 0x3A, 0x3B, 0x3C, 0x3F, 0x42, 0x43, 0x44, 0x47, 0x4B, 0x4F, 0x52, 0x53, 0x54, 0x57, 0x5A, 0x5B, 0x5C, 0x5F, 0x62, 0x63, 0x64, 0x67, 0x6B, 0x6F, 0x72, 0x73, 0x74, 0x77, 0x7A, 0x7B, 0x7C, 0x7F, 0x80, 0x82, 0x83, 0x87, 0x89, 0x8B, 0x8F, 0x92, 0x93, 0x97, 0x9B, 0x9C, 0x9E, 0x9F, 0xA3, 0xA7, 0xAB, 0xAF, 0xB2, 0xB3, 0xB7, 0xBB, 0xBF, 0xC2, 0xC3, 0xC7, 0xCB, 0xCF, 0xD2, 0xD3, 0xD4, 0xD7, 0xDA, 0xDB, 0xDC, 0xDF, 0xE2, 0xE3, 0xE7, 0xEB, 0xEF, 0xF2, 0xF3, 0xF4, 0xF7, 0xFA, 0xFB, 0xFC, 0xFF]) ∧
    (opcodeRow op = none → decode (op :: rest) = .error (.undefinedOpcode op))

/-- The example bytes of the assembler syntax table decode to the instructions they stand for: 30_encoding.md R118 (example column), R120. -/
def Obligations.SampleWordsDecodeAsTheSpecEncodesThem : Prop :=
  decode [0x18#8] = .ok (.clc, []) ∧ decode [0x0A#8] = .ok (.aslAcc, []) ∧
  decode [0xA9#8, 0x10#8] = .ok (.ldaImm 0x10#8, []) ∧ decode [0xA5#8, 0x10#8] = .ok (.ldaZp 0x10#8, []) ∧
  decode [0xB5#8, 0x10#8] = .ok (.ldaZpX 0x10#8, []) ∧ decode [0xB6#8, 0x10#8] = .ok (.ldxZpY 0x10#8, []) ∧
  decode [0xAD#8, 0x34#8, 0x12#8] = .ok (.ldaAbs 0x1234#16, []) ∧
  decode [0xBD#8, 0x34#8, 0x12#8] = .ok (.ldaAbsX 0x1234#16, []) ∧
  decode [0xB9#8, 0x34#8, 0x12#8] = .ok (.ldaAbsY 0x1234#16, []) ∧
  decode [0x6C#8, 0x34#8, 0x12#8] = .ok (.jmpInd 0x1234#16, []) ∧
  decode [0xA1#8, 0x10#8] = .ok (.ldaIndX 0x10#8, []) ∧ decode [0xB1#8, 0x10#8] = .ok (.ldaIndY 0x10#8, []) ∧
  decode [0xD0#8, 0xFB#8] = .ok (.bne 0xFB#8, []) ∧ decode [0x20#8, 0x34#8, 0x92#8] = .ok (.jsr 0x9234#16, []) ∧
  decode [0x00#8] = .ok (.brk, []) ∧ decode [0x48#8] = .ok (.pha, [])

/-- Zero-page and zero-page,X addresses lie in page zero and never cost a penalty; zero-page,Y alike: 30_encoding.md R105, R106, R107, R115. -/
def Obligations.ZeroPageFormsWrapInPageZero : Prop :=
  (∀ zp s, (atZp zp s).ea.toNat = zp.toNat ∧ (atZp zp s).ea.toNat ≤ 0x00FF) ∧
  (∀ zp s, (atZpX zp s).ea.toNat = (zp.toNat + s.x.toNat) % 256) ∧
  (∀ zp s, (atZpY zp s).ea.toNat = (zp.toNat + s.y.toNat) % 256) ∧
  (∀ zp s, hiByte (atZpX zp s).ea = 0x00#8 ∧ hiByte (atZpY zp s).ea = 0x00#8) ∧
  (∀ zp s, (atZp zp s).crossed = false ∧ (atZpX zp s).crossed = false ∧ (atZpY zp s).crossed = false) ∧
  (∀ s, s.x = 0x02#8 → (atZpX 0xFF#8 s).ea = 0x0001#16)

/-- Absolute indexed addresses wrap at 16 bits; a changed high byte sets the penalty to 1 for the eligible opcodes, which are the reads: 30_encoding.md R108, R109, R110, R115, 20_memory.md R63 (b), 00_scope.md R7. -/
def Obligations.AbsoluteFormsWrapAt16BitsAndNoteAPageCrossing : Prop :=
  (∀ a s, (atAbs a s).ea = a ∧ (atAbs a s).crossed = false) ∧
  (∀ a s, (atAbsX a s).ea.toNat = (a.toNat + s.x.toNat) % 65536 ∧ (atAbsY a s).ea.toNat = (a.toNat + s.y.toNat) % 65536) ∧
  (∀ a s, (atAbsX a s).crossed = decide ((atAbsX a s).ea.toNat / 256 ≠ a.toNat / 256) ∧
    (atAbsY a s).crossed = decide ((atAbsY a s).ea.toNat / 256 ≠ a.toNat / 256)) ∧
  (∀ (pl : Place) op s, pl.charge op s = { s with penalty := if penaltyEligible op && pl.crossed then 1 else s.penalty }) ∧
  (∀ i : Instr, penaltyEligible i.opcode = true ↔
    mnemonicOf i ∈ ["ADC", "AND", "CMP", "EOR", "LDA", "LDX", "LDY", "ORA", "SBC"] ∧
    modeOf i ∈ [Mode.absoluteX, .absoluteY, .indirectIndexed])

/-- The pointers of (indirect,X) and (indirect),Y are read in page zero, their high byte from (z + 1) mod 256: 30_encoding.md R112, R113, R115, 20_memory.md R63 (d). -/
def Obligations.IndexedPointersWrapInPageZero : Prop :=
  (∀ zp s, (atIndX zp s).ea.toNat =
      (s.ram.read ((zp.toNat + s.x.toNat + 1) % 256)).toNat * 256 + (s.ram.read ((zp.toNat + s.x.toNat) % 256)).toNat ∧
    (atIndX zp s).crossed = false) ∧
  (∀ zp s, (zpPointer zp s).toNat = (s.ram.read ((zp.toNat + 1) % 256)).toNat * 256 + (s.ram.read zp.toNat).toNat ∧
    (atIndY zp s).ea.toNat = ((zpPointer zp s).toNat + s.y.toNat) % 65536 ∧
    (atIndY zp s).crossed = decide ((atIndY zp s).ea.toNat / 256 ≠ (zpPointer zp s).toNat / 256)) ∧
  (∀ z s, memRead (zext16 z) s = .ok (s.ram.read z.toNat) s)

/-- AddCore gives the sum mod 256, the carry out of 8 bits, and the signed overflow: R162. -/
def Obligations.AddCoreCarriesAndOverflows : Prop :=
  ∀ (a m : Byte) (c : Bool),
    (addCore a m c).r.toNat = (a.toNat + m.toNat + c.toNat) % 256 ∧
    (addCore a m c).carry = decide (a.toNat + m.toNat + c.toNat > 0xFF) ∧
    (addCore a m c).ovf = decide (((a ^^^ (addCore a m c).r) &&& (m ^^^ (addCore a m c).r) &&& 0x80#8) ≠ 0#8) ∧
    (addCore a m c).ovf = (a.getLsbD 7 == m.getLsbD 7 && (addCore a m c).r.getLsbD 7 != a.getLsbD 7) ∧
    (addCore a m c).ovf = decide (signed a + signed m + (c.toNat : Int) < -128 ∨ signed a + signed m + (c.toNat : Int) > 127)

/-- LDA, LDX, LDY in every form load the register and set Z and N, and end in Error on a refused read: 40_load_store_transfer.md R140, R141, R142, R143, 00_scope.md R11, notes/assumptions 1 and 2: the state after a refused access is the model's choice. -/
def Obligations.LoadsWriteTheirRegisterAndZN : Prop :=
  (∀ (b : Byte) (a : Addr), Codes [
    (.ldaImm b, [0xA9#8, b], .immediate, 2, false),
    (.ldaZp b, [0xA5#8, b], .zeroPage, 3, false),
    (.ldaZpX b, [0xB5#8, b], .zeroPageX, 4, false),
    (.ldaAbs a, [0xAD#8, loByte a, hiByte a], .absolute, 4, false),
    (.ldaAbsX a, [0xBD#8, loByte a, hiByte a], .absoluteX, 4, true),
    (.ldaAbsY a, [0xB9#8, loByte a, hiByte a], .absoluteY, 4, true),
    (.ldaIndX b, [0xA1#8, b], .indexedIndirect, 6, false),
    (.ldaIndY b, [0xB1#8, b], .indirectIndexed, 5, true),
    (.ldxImm b, [0xA2#8, b], .immediate, 2, false),
    (.ldxZp b, [0xA6#8, b], .zeroPage, 3, false),
    (.ldxZpY b, [0xB6#8, b], .zeroPageY, 4, false),
    (.ldxAbs a, [0xAE#8, loByte a, hiByte a], .absolute, 4, false),
    (.ldxAbsY a, [0xBE#8, loByte a, hiByte a], .absoluteY, 4, true),
    (.ldyImm b, [0xA0#8, b], .immediate, 2, false),
    (.ldyZp b, [0xA4#8, b], .zeroPage, 3, false),
    (.ldyZpX b, [0xB4#8, b], .zeroPageX, 4, false),
    (.ldyAbs a, [0xAC#8, loByte a, hiByte a], .absolute, 4, false),
    (.ldyAbsX a, [0xBC#8, loByte a, hiByte a], .absoluteX, 4, true)]) ∧
  (∀ m s, exec (.ldaImm m) s = .next (withA m s)) ∧
  (∀ v, Reads (atZp v) (.ldaZp v) withA openAZN) ∧
  (∀ v, Reads (atZpX v) (.ldaZpX v) withA openAZN) ∧
  (∀ v, Reads (atAbs v) (.ldaAbs v) withA openAZN) ∧
  (∀ v, Reads (atAbsX v) (.ldaAbsX v) withA openAZN) ∧
  (∀ v, Reads (atAbsY v) (.ldaAbsY v) withA openAZN) ∧
  (∀ v, Reads (atIndX v) (.ldaIndX v) withA openAZN) ∧
  (∀ v, Reads (atIndY v) (.ldaIndY v) withA openAZN) ∧
  (∀ m s, exec (.ldxImm m) s = .next (withX m s)) ∧
  (∀ v, Reads (atZp v) (.ldxZp v) withX openXZN) ∧
  (∀ v, Reads (atZpY v) (.ldxZpY v) withX openXZN) ∧
  (∀ v, Reads (atAbs v) (.ldxAbs v) withX openXZN) ∧
  (∀ v, Reads (atAbsY v) (.ldxAbsY v) withX openXZN) ∧
  (∀ m s, exec (.ldyImm m) s = .next (withY m s)) ∧
  (∀ v, Reads (atZp v) (.ldyZp v) withY openYZN) ∧
  (∀ v, Reads (atZpX v) (.ldyZpX v) withY openYZN) ∧
  (∀ v, Reads (atAbs v) (.ldyAbs v) withY openYZN) ∧
  (∀ v, Reads (atAbsX v) (.ldyAbsX v) withY openYZN)

/-- STA, STX, STY in every form do exactly one bus write of their register, and end in Error on a refused write: 40_load_store_transfer.md R140, R144, R145, R146, 00_scope.md R11, notes/assumptions 1 and 2: the state after a refused access is the model's choice. -/
def Obligations.StoresWriteOneByteAndNothingElse : Prop :=
  (∀ (b : Byte) (a : Addr), Codes [
    (.staZp b, [0x85#8, b], .zeroPage, 3, false),
    (.staZpX b, [0x95#8, b], .zeroPageX, 4, false),
    (.staAbs a, [0x8D#8, loByte a, hiByte a], .absolute, 4, false),
    (.staAbsX a, [0x9D#8, loByte a, hiByte a], .absoluteX, 5, false),
    (.staAbsY a, [0x99#8, loByte a, hiByte a], .absoluteY, 5, false),
    (.staIndX b, [0x81#8, b], .indexedIndirect, 6, false),
    (.staIndY b, [0x91#8, b], .indirectIndexed, 6, false),
    (.stxZp b, [0x86#8, b], .zeroPage, 3, false),
    (.stxZpY b, [0x96#8, b], .zeroPageY, 4, false),
    (.stxAbs a, [0x8E#8, loByte a, hiByte a], .absolute, 4, false),
    (.styZp b, [0x84#8, b], .zeroPage, 3, false),
    (.styZpX b, [0x94#8, b], .zeroPageX, 4, false),
    (.styAbs a, [0x8C#8, loByte a, hiByte a], .absolute, 4, false)]) ∧
  (∀ v, Stores (atZp v) (.staZp v) State.a) ∧
  (∀ v, Stores (atZpX v) (.staZpX v) State.a) ∧
  (∀ v, Stores (atAbs v) (.staAbs v) State.a) ∧
  (∀ v, Stores (atAbsX v) (.staAbsX v) State.a) ∧
  (∀ v, Stores (atAbsY v) (.staAbsY v) State.a) ∧
  (∀ v, Stores (atIndX v) (.staIndX v) State.a) ∧
  (∀ v, Stores (atIndY v) (.staIndY v) State.a) ∧
  (∀ v, Stores (atZp v) (.stxZp v) State.x) ∧
  (∀ v, Stores (atZpY v) (.stxZpY v) State.x) ∧
  (∀ v, Stores (atAbs v) (.stxAbs v) State.x) ∧
  (∀ v, Stores (atZp v) (.styZp v) State.y) ∧
  (∀ v, Stores (atZpX v) (.styZpX v) State.y) ∧
  (∀ v, Stores (atAbs v) (.styAbs v) State.y)

/-- TAX, TAY, TXA, TYA, TSX copy and set Z and N; TXS copies and sets no flag: R147, R148, R149, R150, R151, R152. -/
def Obligations.TransfersCopyARegister : Prop :=
  (Codes [
    (.tax, [0xAA#8], .implied, 2, false),
    (.tay, [0xA8#8], .implied, 2, false),
    (.txa, [0x8A#8], .implied, 2, false),
    (.tya, [0x98#8], .implied, 2, false),
    (.tsx, [0xBA#8], .implied, 2, false),
    (.txs, [0x9A#8], .implied, 2, false)]) ∧
  (∀ s, exec .tax s = .next (withX s.a s)) ∧ (∀ s, exec .tay s = .next (withY s.a s)) ∧
  (∀ s, exec .txa s = .next (withA s.x s)) ∧ (∀ s, exec .tya s = .next (withA s.y s)) ∧
  (∀ s, exec .tsx s = .next (withX s.s s)) ∧ (∀ s, exec .txs s = .next { s with s := s.x })

/-- ADC in every form adds the operand and C, and sets C, V, Z, N as the arithmetic laws say, whatever D holds: 41_arithmetic_logic.md R163, R164, R179 (a), (d), 00_scope.md R11, notes/assumptions 1 and 2: the state after a refused access is the model's choice. -/
def Obligations.AdcAddsWithCarryAndSetsFlags : Prop :=
  (∀ (b : Byte) (a : Addr), Codes [
    (.adcImm b, [0x69#8, b], .immediate, 2, false),
    (.adcZp b, [0x65#8, b], .zeroPage, 3, false),
    (.adcZpX b, [0x75#8, b], .zeroPageX, 4, false),
    (.adcAbs a, [0x6D#8, loByte a, hiByte a], .absolute, 4, false),
    (.adcAbsX a, [0x7D#8, loByte a, hiByte a], .absoluteX, 4, true),
    (.adcAbsY a, [0x79#8, loByte a, hiByte a], .absoluteY, 4, true),
    (.adcIndX b, [0x61#8, b], .indexedIndirect, 6, false),
    (.adcIndY b, [0x71#8, b], .indirectIndexed, 5, true)]) ∧
  (∀ m s, exec (.adcImm m) s = .next (added m s)) ∧
  (∀ v, Reads (atZp v) (.adcZp v) added openAll) ∧
  (∀ v, Reads (atZpX v) (.adcZpX v) added openAll) ∧
  (∀ v, Reads (atAbs v) (.adcAbs v) added openAll) ∧
  (∀ v, Reads (atAbsX v) (.adcAbsX v) added openAll) ∧
  (∀ v, Reads (atAbsY v) (.adcAbsY v) added openAll) ∧
  (∀ v, Reads (atIndX v) (.adcIndX v) added openAll) ∧
  (∀ v, Reads (atIndY v) (.adcIndY v) added openAll)

/-- SBC in every form subtracts the operand and the borrow, and sets C, V, Z, N as the arithmetic laws say, whatever D holds: 41_arithmetic_logic.md R163, R165, R179 (b), (e), 00_scope.md R11, notes/assumptions 1 and 2: the state after a refused access is the model's choice. -/
def Obligations.SbcSubtractsWithBorrowAndSetsFlags : Prop :=
  (∀ (b : Byte) (a : Addr), Codes [
    (.sbcImm b, [0xE9#8, b], .immediate, 2, false),
    (.sbcZp b, [0xE5#8, b], .zeroPage, 3, false),
    (.sbcZpX b, [0xF5#8, b], .zeroPageX, 4, false),
    (.sbcAbs a, [0xED#8, loByte a, hiByte a], .absolute, 4, false),
    (.sbcAbsX a, [0xFD#8, loByte a, hiByte a], .absoluteX, 4, true),
    (.sbcAbsY a, [0xF9#8, loByte a, hiByte a], .absoluteY, 4, true),
    (.sbcIndX b, [0xE1#8, b], .indexedIndirect, 6, false),
    (.sbcIndY b, [0xF1#8, b], .indirectIndexed, 5, true)]) ∧
  (∀ m s, exec (.sbcImm m) s = .next (subtracted m s)) ∧
  (∀ v, Reads (atZp v) (.sbcZp v) subtracted openAll) ∧
  (∀ v, Reads (atZpX v) (.sbcZpX v) subtracted openAll) ∧
  (∀ v, Reads (atAbs v) (.sbcAbs v) subtracted openAll) ∧
  (∀ v, Reads (atAbsX v) (.sbcAbsX v) subtracted openAll) ∧
  (∀ v, Reads (atAbsY v) (.sbcAbsY v) subtracted openAll) ∧
  (∀ v, Reads (atIndX v) (.sbcIndX v) subtracted openAll) ∧
  (∀ v, Reads (atIndY v) (.sbcIndY v) subtracted openAll)

/-- AND, ORA, EOR in every form combine A with the operand and set Z and N only: 41_arithmetic_logic.md R166, R167, R168, 00_scope.md R11, notes/assumptions 1 and 2: the state after a refused access is the model's choice. -/
def Obligations.LogicCombinesBitwiseWithA : Prop :=
  (∀ (b : Byte) (a : Addr), Codes [
    (.andImm b, [0x29#8, b], .immediate, 2, false),
    (.andZp b, [0x25#8, b], .zeroPage, 3, false),
    (.andZpX b, [0x35#8, b], .zeroPageX, 4, false),
    (.andAbs a, [0x2D#8, loByte a, hiByte a], .absolute, 4, false),
    (.andAbsX a, [0x3D#8, loByte a, hiByte a], .absoluteX, 4, true),
    (.andAbsY a, [0x39#8, loByte a, hiByte a], .absoluteY, 4, true),
    (.andIndX b, [0x21#8, b], .indexedIndirect, 6, false),
    (.andIndY b, [0x31#8, b], .indirectIndexed, 5, true),
    (.oraImm b, [0x09#8, b], .immediate, 2, false),
    (.oraZp b, [0x05#8, b], .zeroPage, 3, false),
    (.oraZpX b, [0x15#8, b], .zeroPageX, 4, false),
    (.oraAbs a, [0x0D#8, loByte a, hiByte a], .absolute, 4, false),
    (.oraAbsX a, [0x1D#8, loByte a, hiByte a], .absoluteX, 4, true),
    (.oraAbsY a, [0x19#8, loByte a, hiByte a], .absoluteY, 4, true),
    (.oraIndX b, [0x01#8, b], .indexedIndirect, 6, false),
    (.oraIndY b, [0x11#8, b], .indirectIndexed, 5, true),
    (.eorImm b, [0x49#8, b], .immediate, 2, false),
    (.eorZp b, [0x45#8, b], .zeroPage, 3, false),
    (.eorZpX b, [0x55#8, b], .zeroPageX, 4, false),
    (.eorAbs a, [0x4D#8, loByte a, hiByte a], .absolute, 4, false),
    (.eorAbsX a, [0x5D#8, loByte a, hiByte a], .absoluteX, 4, true),
    (.eorAbsY a, [0x59#8, loByte a, hiByte a], .absoluteY, 4, true),
    (.eorIndX b, [0x41#8, b], .indexedIndirect, 6, false),
    (.eorIndY b, [0x51#8, b], .indirectIndexed, 5, true)]) ∧
  (∀ m s, exec (.andImm m) s = .next ((fun m s => withA (s.a &&& m) s) m s)) ∧
  (∀ v, Reads (atZp v) (.andZp v) (fun m s => withA (s.a &&& m) s) openAZN) ∧
  (∀ v, Reads (atZpX v) (.andZpX v) (fun m s => withA (s.a &&& m) s) openAZN) ∧
  (∀ v, Reads (atAbs v) (.andAbs v) (fun m s => withA (s.a &&& m) s) openAZN) ∧
  (∀ v, Reads (atAbsX v) (.andAbsX v) (fun m s => withA (s.a &&& m) s) openAZN) ∧
  (∀ v, Reads (atAbsY v) (.andAbsY v) (fun m s => withA (s.a &&& m) s) openAZN) ∧
  (∀ v, Reads (atIndX v) (.andIndX v) (fun m s => withA (s.a &&& m) s) openAZN) ∧
  (∀ v, Reads (atIndY v) (.andIndY v) (fun m s => withA (s.a &&& m) s) openAZN) ∧
  (∀ m s, exec (.oraImm m) s = .next ((fun m s => withA (s.a ||| m) s) m s)) ∧
  (∀ v, Reads (atZp v) (.oraZp v) (fun m s => withA (s.a ||| m) s) openAZN) ∧
  (∀ v, Reads (atZpX v) (.oraZpX v) (fun m s => withA (s.a ||| m) s) openAZN) ∧
  (∀ v, Reads (atAbs v) (.oraAbs v) (fun m s => withA (s.a ||| m) s) openAZN) ∧
  (∀ v, Reads (atAbsX v) (.oraAbsX v) (fun m s => withA (s.a ||| m) s) openAZN) ∧
  (∀ v, Reads (atAbsY v) (.oraAbsY v) (fun m s => withA (s.a ||| m) s) openAZN) ∧
  (∀ v, Reads (atIndX v) (.oraIndX v) (fun m s => withA (s.a ||| m) s) openAZN) ∧
  (∀ v, Reads (atIndY v) (.oraIndY v) (fun m s => withA (s.a ||| m) s) openAZN) ∧
  (∀ m s, exec (.eorImm m) s = .next ((fun m s => withA (s.a ^^^ m) s) m s)) ∧
  (∀ v, Reads (atZp v) (.eorZp v) (fun m s => withA (s.a ^^^ m) s) openAZN) ∧
  (∀ v, Reads (atZpX v) (.eorZpX v) (fun m s => withA (s.a ^^^ m) s) openAZN) ∧
  (∀ v, Reads (atAbs v) (.eorAbs v) (fun m s => withA (s.a ^^^ m) s) openAZN) ∧
  (∀ v, Reads (atAbsX v) (.eorAbsX v) (fun m s => withA (s.a ^^^ m) s) openAZN) ∧
  (∀ v, Reads (atAbsY v) (.eorAbsY v) (fun m s => withA (s.a ^^^ m) s) openAZN) ∧
  (∀ v, Reads (atIndX v) (.eorIndX v) (fun m s => withA (s.a ^^^ m) s) openAZN) ∧
  (∀ v, Reads (atIndY v) (.eorIndY v) (fun m s => withA (s.a ^^^ m) s) openAZN)

/-- CMP, CPX, CPY in every form set C, Z, N from the unsigned difference and write no register: 41_arithmetic_logic.md R169, R170, R171, R179 (c), 00_scope.md R11, notes/assumptions 1 and 2: the state after a refused access is the model's choice. -/
def Obligations.ComparesSetCZNFromTheDifference : Prop :=
  (∀ (b : Byte) (a : Addr), Codes [
    (.cmpImm b, [0xC9#8, b], .immediate, 2, false),
    (.cmpZp b, [0xC5#8, b], .zeroPage, 3, false),
    (.cmpZpX b, [0xD5#8, b], .zeroPageX, 4, false),
    (.cmpAbs a, [0xCD#8, loByte a, hiByte a], .absolute, 4, false),
    (.cmpAbsX a, [0xDD#8, loByte a, hiByte a], .absoluteX, 4, true),
    (.cmpAbsY a, [0xD9#8, loByte a, hiByte a], .absoluteY, 4, true),
    (.cmpIndX b, [0xC1#8, b], .indexedIndirect, 6, false),
    (.cmpIndY b, [0xD1#8, b], .indirectIndexed, 5, true),
    (.cpxImm b, [0xE0#8, b], .immediate, 2, false),
    (.cpxZp b, [0xE4#8, b], .zeroPage, 3, false),
    (.cpxAbs a, [0xEC#8, loByte a, hiByte a], .absolute, 4, false),
    (.cpyImm b, [0xC0#8, b], .immediate, 2, false),
    (.cpyZp b, [0xC4#8, b], .zeroPage, 3, false),
    (.cpyAbs a, [0xCC#8, loByte a, hiByte a], .absolute, 4, false)]) ∧
  (∀ m s, exec (.cmpImm m) s = .next ((fun m s => compared s.a m s) m s)) ∧
  (∀ v, Reads (atZp v) (.cmpZp v) (fun m s => compared s.a m s) openCZN) ∧
  (∀ v, Reads (atZpX v) (.cmpZpX v) (fun m s => compared s.a m s) openCZN) ∧
  (∀ v, Reads (atAbs v) (.cmpAbs v) (fun m s => compared s.a m s) openCZN) ∧
  (∀ v, Reads (atAbsX v) (.cmpAbsX v) (fun m s => compared s.a m s) openCZN) ∧
  (∀ v, Reads (atAbsY v) (.cmpAbsY v) (fun m s => compared s.a m s) openCZN) ∧
  (∀ v, Reads (atIndX v) (.cmpIndX v) (fun m s => compared s.a m s) openCZN) ∧
  (∀ v, Reads (atIndY v) (.cmpIndY v) (fun m s => compared s.a m s) openCZN) ∧
  (∀ m s, exec (.cpxImm m) s = .next ((fun m s => compared s.x m s) m s)) ∧
  (∀ v, Reads (atZp v) (.cpxZp v) (fun m s => compared s.x m s) openCZN) ∧
  (∀ v, Reads (atAbs v) (.cpxAbs v) (fun m s => compared s.x m s) openCZN) ∧
  (∀ m s, exec (.cpyImm m) s = .next ((fun m s => compared s.y m s) m s)) ∧
  (∀ v, Reads (atZp v) (.cpyZp v) (fun m s => compared s.y m s) openCZN) ∧
  (∀ v, Reads (atAbs v) (.cpyAbs v) (fun m s => compared s.y m s) openCZN)

/-- BIT sets Z from A and M, N and V from bits 7 and 6 of the operand: 41_arithmetic_logic.md R172, 00_scope.md R11, notes/assumptions 1 and 2: the state after a refused access is the model's choice. -/
def Obligations.BitTakesNAndVFromTheOperand : Prop :=
  (∀ (b : Byte) (a : Addr), Codes [
    (.bitZp b, [0x24#8, b], .zeroPage, 3, false),
    (.bitAbs a, [0x2C#8, loByte a, hiByte a], .absolute, 4, false)]) ∧
  (∀ v, Reads (atZp v) (.bitZp v) bitTested openZVN) ∧
  (∀ v, Reads (atAbs v) (.bitAbs v) bitTested openZVN)

/-- INC and DEC in every form read one byte, write it plus or minus 1 mod 256, and set Z and N only: 41_arithmetic_logic.md R173, R174, R179 (f), 20_memory.md R64, 00_scope.md R11, notes/assumptions 1 and 2: the state after a refused access is the model's choice. -/
def Obligations.IncAndDecMemoryReadOnceAndWriteOnce : Prop :=
  (∀ (b : Byte) (a : Addr), Codes [
    (.incZp b, [0xE6#8, b], .zeroPage, 5, false),
    (.incZpX b, [0xF6#8, b], .zeroPageX, 6, false),
    (.incAbs a, [0xEE#8, loByte a, hiByte a], .absolute, 6, false),
    (.incAbsX a, [0xFE#8, loByte a, hiByte a], .absoluteX, 7, false),
    (.decZp b, [0xC6#8, b], .zeroPage, 5, false),
    (.decZpX b, [0xD6#8, b], .zeroPageX, 6, false),
    (.decAbs a, [0xCE#8, loByte a, hiByte a], .absolute, 6, false),
    (.decAbsX a, [0xDE#8, loByte a, hiByte a], .absoluteX, 7, false)]) ∧
  (∀ v, Modifies (atZp v) (.incZp v) plusOne openZN) ∧
  (∀ v, Modifies (atZpX v) (.incZpX v) plusOne openZN) ∧
  (∀ v, Modifies (atAbs v) (.incAbs v) plusOne openZN) ∧
  (∀ v, Modifies (atAbsX v) (.incAbsX v) plusOne openZN) ∧
  (∀ v, Modifies (atZp v) (.decZp v) minusOne openZN) ∧
  (∀ v, Modifies (atZpX v) (.decZpX v) minusOne openZN) ∧
  (∀ v, Modifies (atAbs v) (.decAbs v) minusOne openZN) ∧
  (∀ v, Modifies (atAbsX v) (.decAbsX v) minusOne openZN)

/-- INX, INY, DEX, DEY step their register mod 256 and set Z and N only: R175, R176, R177, R178. -/
def Obligations.IndexIncrementsAndDecrementsWrap : Prop :=
  (Codes [
    (.inx, [0xE8#8], .implied, 2, false),
    (.iny, [0xC8#8], .implied, 2, false),
    (.dex, [0xCA#8], .implied, 2, false),
    (.dey, [0x88#8], .implied, 2, false)]) ∧
  (∀ s, exec .inx s = .next (withX (BitVec.ofNat 8 ((s.x.toNat + 1) % 256)) s)) ∧
  (∀ s, exec .iny s = .next (withY (BitVec.ofNat 8 ((s.y.toNat + 1) % 256)) s)) ∧
  (∀ s, exec .dex s = .next (withX (BitVec.ofNat 8 ((s.x.toNat + 255) % 256)) s)) ∧
  (∀ s, exec .dey s = .next (withY (BitVec.ofNat 8 ((s.y.toNat + 255) % 256)) s))

/-- ASL, LSR, ROL, ROR shift A, or one memory byte with one read and one write, by one bit, and set C, Z, N: 42_shift_rotate.md R180, R181, R182, R183, R184, 20_memory.md R64, 00_scope.md R11, notes/assumptions 1 and 2: the state after a refused access is the model's choice. -/
def Obligations.ShiftsMoveOneBitOfAOrOfMemory : Prop :=
  (∀ (b : Byte) (a : Addr), Codes [
    (.aslAcc, [0x0A#8], .accumulator, 2, false),
    (.aslZp b, [0x06#8, b], .zeroPage, 5, false),
    (.aslZpX b, [0x16#8, b], .zeroPageX, 6, false),
    (.aslAbs a, [0x0E#8, loByte a, hiByte a], .absolute, 6, false),
    (.aslAbsX a, [0x1E#8, loByte a, hiByte a], .absoluteX, 7, false),
    (.lsrAcc, [0x4A#8], .accumulator, 2, false),
    (.lsrZp b, [0x46#8, b], .zeroPage, 5, false),
    (.lsrZpX b, [0x56#8, b], .zeroPageX, 6, false),
    (.lsrAbs a, [0x4E#8, loByte a, hiByte a], .absolute, 6, false),
    (.lsrAbsX a, [0x5E#8, loByte a, hiByte a], .absoluteX, 7, false),
    (.rolAcc, [0x2A#8], .accumulator, 2, false),
    (.rolZp b, [0x26#8, b], .zeroPage, 5, false),
    (.rolZpX b, [0x36#8, b], .zeroPageX, 6, false),
    (.rolAbs a, [0x2E#8, loByte a, hiByte a], .absolute, 6, false),
    (.rolAbsX a, [0x3E#8, loByte a, hiByte a], .absoluteX, 7, false),
    (.rorAcc, [0x6A#8], .accumulator, 2, false),
    (.rorZp b, [0x66#8, b], .zeroPage, 5, false),
    (.rorZpX b, [0x76#8, b], .zeroPageX, 6, false),
    (.rorAbs a, [0x6E#8, loByte a, hiByte a], .absolute, 6, false),
    (.rorAbsX a, [0x7E#8, loByte a, hiByte a], .absoluteX, 7, false)]) ∧
  ShiftsA .aslAcc shiftedLeft ∧ ShiftsA .lsrAcc shiftedRight ∧ ShiftsA .rolAcc rotatedLeft ∧ ShiftsA .rorAcc rotatedRight ∧
  (∀ v, Modifies (atZp v) (.aslZp v) shiftedLeft openCZN) ∧
  (∀ v, Modifies (atZpX v) (.aslZpX v) shiftedLeft openCZN) ∧
  (∀ v, Modifies (atAbs v) (.aslAbs v) shiftedLeft openCZN) ∧
  (∀ v, Modifies (atAbsX v) (.aslAbsX v) shiftedLeft openCZN) ∧
  (∀ v, Modifies (atZp v) (.lsrZp v) shiftedRight openCZN) ∧
  (∀ v, Modifies (atZpX v) (.lsrZpX v) shiftedRight openCZN) ∧
  (∀ v, Modifies (atAbs v) (.lsrAbs v) shiftedRight openCZN) ∧
  (∀ v, Modifies (atAbsX v) (.lsrAbsX v) shiftedRight openCZN) ∧
  (∀ v, Modifies (atZp v) (.rolZp v) rotatedLeft openCZN) ∧
  (∀ v, Modifies (atZpX v) (.rolZpX v) rotatedLeft openCZN) ∧
  (∀ v, Modifies (atAbs v) (.rolAbs v) rotatedLeft openCZN) ∧
  (∀ v, Modifies (atAbsX v) (.rolAbsX v) rotatedLeft openCZN) ∧
  (∀ v, Modifies (atZp v) (.rorZp v) rotatedRight openCZN) ∧
  (∀ v, Modifies (atZpX v) (.rorZpX v) rotatedRight openCZN) ∧
  (∀ v, Modifies (atAbs v) (.rorAbs v) rotatedRight openCZN) ∧
  (∀ v, Modifies (atAbsX v) (.rorAbsX v) rotatedRight openCZN)

/-- The eight branches go to next + sext(d) if their flag says so, with penalty 1 or 2, and otherwise change nothing: 43_control_flow.md R190, R191, R192, R193, R194, R195, R196, R197, R198, 30_encoding.md R114. -/
def Obligations.BranchesTakenAndNotTaken : Prop :=
  (∀ (b : Byte), Codes [
    (.bcc b, [0x90#8, b], .relative, 2, false),
    (.bcs b, [0xB0#8, b], .relative, 2, false),
    (.beq b, [0xF0#8, b], .relative, 2, false),
    (.bmi b, [0x30#8, b], .relative, 2, false),
    (.bne b, [0xD0#8, b], .relative, 2, false),
    (.bpl b, [0x10#8, b], .relative, 2, false),
    (.bvc b, [0x50#8, b], .relative, 2, false),
    (.bvs b, [0x70#8, b], .relative, 2, false)]) ∧
  Branches .bcc (fun p => !p.c) ∧ Branches .bcs (fun p => p.c) ∧ Branches .beq (fun p => p.z) ∧ Branches .bmi (fun p => p.n) ∧
  Branches .bne (fun p => !p.z) ∧ Branches .bpl (fun p => !p.n) ∧ Branches .bvc (fun p => !p.v) ∧ Branches .bvs (fun p => p.v)

/-- JMP sets PC; through a pointer it reads the high byte from the same page as the low byte: 43_control_flow.md R199, 30_encoding.md R108, R111, 20_memory.md R63 (c), 00_scope.md R11, notes/assumptions 1 and 2: the state after a refused access is the model's choice. -/
def Obligations.JumpsSetPcAndThePointerStaysInItsPage : Prop :=
  (∀ (a : Addr), Codes [
    (.jmpAbs a, [0x4C#8, loByte a, hiByte a], .absolute, 3, false),
    (.jmpInd a, [0x6C#8, loByte a, hiByte a], .indirect, 5, false)]) ∧
  (∀ addr s, exec (.jmpAbs addr) s = .next { s with pc := addr }) ∧
  (∀ ptr s lo t hi u, memRead ptr s = .ok lo t → memRead (addrOf (hiByte ptr) (loByte ptr + 1#8)) t = .ok hi u →
    exec (.jmpInd ptr) s = .next { u with pc := addrOf hi lo }) ∧
  (∀ ptr s f, memRead ptr s = .failed f → ∃ w, exec (.jmpInd ptr) s = .next w ∧ w = busFaulted { s with pc := w.pc } w) ∧
  (∀ ptr s lo t f, memRead ptr s = .ok lo t → memRead (addrOf (hiByte ptr) (loByte ptr + 1#8)) t = .failed f →
    ∃ w, exec (.jmpInd ptr) s = .next w ∧ w = busFaulted { t with pc := w.pc } w) ∧
  (∀ ptr s, memRead ptr s = .fatal → exec (.jmpInd ptr) s = .fault .fatalVrom) ∧
  (∀ ptr s lo t, memRead ptr s = .ok lo t → memRead (addrOf (hiByte ptr) (loByte ptr + 1#8)) t = .fatal →
    exec (.jmpInd ptr) s = .fault .fatalVrom)

/-- JSR pushes PC - 1 (high, then low), jumps, and ends in Error if S wrapped: 43_control_flow.md R200, 44_stack_and_flags.md R210, R212. -/
def Obligations.JsrPushesTheAddressOfItsThirdByte : Prop :=
  (∀ (a : Addr), Codes [
    (.jsr a, [0x20#8, loByte a, hiByte a], .absolute, 6, false)]) ∧
  (∀ addr s, exec (.jsr addr) s = .next { s with
    ram := (s.ram.write (below s 0) (hiByte (s.pc - 1#16))).write (below s 1) (loByte (s.pc - 1#16))
    s := s.s - 2#8, pc := addr, stackFault := decide (s.s.toNat ≤ 1), runState := errorIf (decide (s.s.toNat ≤ 1)) s })

/-- RTS pops PC low, then high, adds 1, and ends in Error if S wrapped: 43_control_flow.md R201, 44_stack_and_flags.md R211, R212. -/
def Obligations.RtsPullsPcAndAddsOne : Prop :=
  (Codes [
    (.rts, [0x60#8], .implied, 6, false)]) ∧
  (∀ s, exec .rts s = .next { s with
    s := s.s + 2#8, pc := addrOf (s.ram.read (above s 2)) (s.ram.read (above s 1)) + 1#16
    stackFault := decide (0xFE ≤ s.s.toNat), runState := errorIf (decide (0xFE ≤ s.s.toNat)) s })

/-- Up to 256 pushes are popped in reverse order, whatever S was: 44_stack_and_flags.md R210, R211, R212, 95_test_vectors.md S5. -/
def Obligations.PushesPopInReverseOrder : Prop :=
  ∀ (s : State) (vs : List Byte), s.ram.wf → vs.length ≤ 256 →
    let t := vs.foldl (fun u v => push v u) s
    (∀ k, k < vs.length → (pulled^[k + 1] t).popped = vs.reverse.getD k 0#8) ∧ (pulled^[vs.length] t).s = s.s

/-- PHA, PHP push A and P; PLA, PLP pull them; a wrap of S ends in Error after the other effects: 44_stack_and_flags.md R210, R211, R212, R213, R214, R215, R216, 10_state.md R22. -/
def Obligations.StackInstructionsPushAndPull : Prop :=
  (Codes [
    (.pha, [0x48#8], .implied, 3, false),
    (.php, [0x08#8], .implied, 3, false),
    (.pla, [0x68#8], .implied, 4, false),
    (.plp, [0x28#8], .implied, 4, false)]) ∧
  (∀ s, exec .pha s = .next { s with
    ram := s.ram.write (below s 0) s.a, s := s.s - 1#8
    stackFault := decide (s.s = 0x00#8), runState := errorIf (decide (s.s = 0x00#8)) s }) ∧
  (∀ s, exec .php s = .next { s with
    ram := s.ram.write (below s 0) (statusPushed s.p true), s := s.s - 1#8
    stackFault := decide (s.s = 0x00#8), runState := errorIf (decide (s.s = 0x00#8)) s }) ∧
  (∀ s, exec .pla s = .next { s with
    a := s.ram.read (above s 1), p := zn s.p (s.ram.read (above s 1)), s := s.s + 1#8
    stackFault := decide (s.s = 0xFF#8), runState := errorIf (decide (s.s = 0xFF#8)) s }) ∧
  (∀ s, exec .plp s = .next { s with
    p := flagsFrom s.p (s.ram.read (above s 1)), s := s.s + 1#8
    stackFault := decide (s.s = 0xFF#8), runState := errorIf (decide (s.s = 0xFF#8)) s })

/-- CLC, SEC, CLI, SEI, CLD, SED, CLV write their one flag and nothing else: 44_stack_and_flags.md R217, R218, R219, R220, R221, R222, R223, 10_state.md R23. -/
def Obligations.FlagInstructionsSetOneFlag : Prop :=
  (Codes [
    (.clc, [0x18#8], .implied, 2, false),
    (.sec, [0x38#8], .implied, 2, false),
    (.cli, [0x58#8], .implied, 2, false),
    (.sei, [0x78#8], .implied, 2, false),
    (.cld, [0xD8#8], .implied, 2, false),
    (.sed, [0xF8#8], .implied, 2, false),
    (.clv, [0xB8#8], .implied, 2, false)]) ∧
  (∀ s, exec .clc s = .next { s with p := { s.p with c := false } }) ∧ (∀ s, exec .sec s = .next { s with p := { s.p with c := true } }) ∧
  (∀ s, exec .cli s = .next { s with p := { s.p with i := false } }) ∧ (∀ s, exec .sei s = .next { s with p := { s.p with i := true } }) ∧
  (∀ s, exec .cld s = .next { s with p := { s.p with d := false } }) ∧ (∀ s, exec .sed s = .next { s with p := { s.p with d := true } }) ∧
  (∀ s, exec .clv s = .next { s with p := { s.p with v := false } })

/-- BRK pushes PC + 1 and P with bit 4 set, sets I, and loads PC from the IRQ vector: 45_system.md R230, 60_exceptions.md R357, 44_stack_and_flags.md R212, 20_memory.md R69, 00_scope.md R11, notes/assumptions 1 and 2: the state after the refused vector read is the model's choice. -/
def Obligations.BrkEntersTheIrqHandler : Prop :=
  (Codes [
    (.brk, [0x00#8], .implied, 7, false)]) ∧
  (∀ s lo hi, VectorIs s 0xFFFE lo hi → exec .brk s = .next (entered s (s.pc + 1#16) true (addrOf hi lo))) ∧
  (∀ s, s.cart = none → ∃ t, exec .brk s = .next t ∧ t.runState = .error ∧ t.s = s.s - 3#8 ∧ t.p = { s.p with i := true } ∧
    t.ram = (entered s (s.pc + 1#16) true s.pc).ram)

/-- RTI pops P (bits 4 and 5 ignored), then PC low and high, and increments rti_count: 45_system.md R231, 60_exceptions.md R362, 44_stack_and_flags.md R212. -/
def Obligations.RtiRestoresStatusAndPcAndCounts : Prop :=
  (Codes [
    (.rti, [0x40#8], .implied, 6, false)]) ∧
  (∀ s, exec .rti s = .next { s with
    p := flagsFrom s.p (s.ram.read (above s 1)), pc := addrOf (s.ram.read (above s 3)) (s.ram.read (above s 2))
    s := s.s + 3#8, rtiCount := s.rtiCount + 1
    stackFault := decide (0xFD ≤ s.s.toNat), runState := errorIf (decide (0xFD ≤ s.s.toNat)) s })

/-- NOP changes nothing but the PC its fetch has advanced: 45_system.md R232, 60_exceptions.md R356, R366, notes/assumptions 9: the host's single step with no call listed is the model's choice. -/
def Obligations.NopChangesNothing : Prop :=
  (Codes [
    (.nop, [0xEA#8], .implied, 2, false)]) ∧
  (∀ s, exec .nop s = .next s) ∧
  (∀ s, Idle s → s.penalty = 0 → s.stackFault = false → s.busFault = false → fetchByte s.pc s = .ok 0xEA#8 →
    step s = .next { s with pc := s.pc + 1#16, returned := .clocks 2 })

/-- IRQ() when Running with I = 0 enters the IRQ handler and returns 7; otherwise it returns 0 and is forgotten: 60_exceptions.md R351, R352, R357, 20_memory.md R69, 00_scope.md R11, notes/assumptions 1, 2 and 14: the state and the clocks after the refused vector read are the model's choice, notes/assumptions 9 and 10: the list of host calls in State and the field returned are the model's own form. -/
def Obligations.IrqIsTakenOnlyWhenRunningWithIClear : Prop :=
  (∀ s rest lo hi, s.run = none → s.calls = .irq :: rest → s.runState = .running → s.p.i = false → VectorIs s 0xFFFE lo hi →
    s.penalty = 0 → s.stackFault = false → s.busFault = false →
    step s = .next { entered s s.pc false (addrOf hi lo) with calls := rest, stackFault := false, returned := .clocks 7 }) ∧
  (∀ s rest, s.run = none → s.calls = .irq :: rest → s.runState ≠ .running ∨ s.p.i = true →
    step s = .next { s with calls := rest, returned := .clocks 0 }) ∧
  (∀ s rest, s.run = none → s.calls = .irq :: rest → s.runState = .running → s.p.i = false → s.cart = none →
    ∃ t n, step s = .next t ∧ t.runState = .error ∧ t.calls = rest ∧ t.returned = .clocks n)

/-- NMI() when Running enters the NMI handler whatever I holds, counts, and returns 7; otherwise it returns 0: 60_exceptions.md R351, R353, R357, 20_memory.md R69, 00_scope.md R11, notes/assumptions 1, 2 and 14: the state and the clocks after the refused vector read are the model's choice, notes/assumptions 9 and 10: the list of host calls in State and the field returned are the model's own form. -/
def Obligations.NmiIsTakenWhateverIHolds : Prop :=
  (∀ s rest lo hi, s.run = none → s.calls = .nmi :: rest → s.runState = .running → VectorIs s 0xFFFA lo hi →
    s.penalty = 0 → s.stackFault = false → s.busFault = false →
    step s = .next { entered s s.pc false (addrOf hi lo) with
      calls := rest, stackFault := false, nmiCount := s.nmiCount + 1, returned := .clocks 7 }) ∧
  (∀ s rest, s.run = none → s.calls = .nmi :: rest → s.runState ≠ .running →
    step s = .next { s with calls := rest, returned := .clocks 0 }) ∧
  (∀ s rest, s.run = none → s.calls = .nmi :: rest → s.runState = .running → s.cart = none →
    ∃ t n, step s = .next t ∧ t.runState = .error ∧ t.calls = rest ∧ t.returned = .clocks n)

/-- run(budget) starts with 0 clocks spent, or enters a pending NMI first, whatever the budget, for 7 clocks, and ends there if S wraps: 60_exceptions.md R354, R355, R356, 10_state.md R33, 44_stack_and_flags.md R212, 92_eei_decisions.md D11, notes/assumptions 9: the host's single step is the model's choice, 00_scope.md R11, notes/assumptions 1, 2 and 14: the state and the clocks after the refused vector read are the model's choice. -/
def Obligations.PendingNmiIsEnteredBeforeTheFirstInstruction : Prop :=
  (∀ s rest budget lo hi, s.run = none → s.calls = .run budget :: rest → s.runState = .running → s.nmiPending = true →
    VectorIs s 0xFFFA lo hi → s.penalty = 0 → s.stackFault = false → s.busFault = false →
    step s = .next { entered s s.pc false (addrOf hi lo) with
      calls := rest, stackFault := false, nmiPending := false, nmiCount := s.nmiCount + 1
      run := if s.s.toNat < 3 then none else some { budget := budget, spent := 7 }
      returned := if s.s.toNat < 3 then .clocks 7 else s.returned }) ∧
  (∀ s lo hi, s.run = none → s.calls = [] → s.runState = .running → s.nmiPending = true → VectorIs s 0xFFFA lo hi →
    s.penalty = 0 → s.stackFault = false → s.busFault = false →
    step s = .next { entered s s.pc false (addrOf hi lo) with
      stackFault := false, nmiPending := false, nmiCount := s.nmiCount + 1, returned := .clocks 7 }) ∧
  (∀ s rest budget, s.run = none → s.calls = .run budget :: rest → s.runState = .running → s.nmiPending = false →
    step s = .next { s with calls := rest, run := some { budget := budget, spent := 0 } }) ∧
  (∀ s rest budget, s.run = none → s.calls = .run budget :: rest → s.runState = .running → s.nmiPending = true →
    s.cart = none → ∃ t n, step s = .next t ∧ t.runState = .error ∧ t.run = none ∧ t.nmiPending = false ∧ t.calls = rest ∧
      t.returned = .clocks n)

/-- RTI executed right after an IRQ entry restores PC, S and every flag, so I is clear again: 60_exceptions.md R352, R357, R362, 45_system.md R231, notes/assumptions 14: the flag busFault is the model's own. -/
def Obligations.RtiAfterIrqResumesTheInterruptedProgram : Prop :=
  ∀ s t u : State, s.ram.wf → irqEntry s = .next t → t.busFault = false → exec .rti t = .next u →
    u.pc = s.pc ∧ u.s = s.s ∧ u.p = s.p ∧ u.a = s.a ∧ u.x = s.x ∧ u.y = s.y

/-- reset() loads PC from the vector, sets I, clears B and nmi_pending, makes the CPU Running, and keeps memory, PPU, mapper and counters: 70_reset_and_hazards.md R400, R402, 10_state.md R48, 92_eei_decisions.md D7, notes/assumptions 5: the values of A, X, Y, S and of the flags other than I and B are the model's choice, notes/assumptions 9 and 10: the list of host calls in State and the field returned are the model's own form. -/
def Obligations.ResetSetsTheRegistersAndKeepsTheRest : Prop :=
  (∀ s rest lo hi, s.run = none → s.calls = .reset :: rest → VectorIs s 0xFFFC lo hi → s.busFault = false →
    step s = .next { s with
      a := Config.resetA, x := Config.resetX, y := Config.resetY, s := Config.resetS
      p :=
        { c := Config.resetP.getLsbD 0, z := Config.resetP.getLsbD 1, i := true, d := Config.resetP.getLsbD 3, b := false
          v := Config.resetP.getLsbD 6, n := Config.resetP.getLsbD 7 }
      nmiPending := false, penalty := 0, pc := addrOf hi lo, runState := .running, calls := rest, returned := .nothing }) ∧
  (∀ s rest, s.run = none → s.calls = .reset :: rest → s.cart = none → ∃ t, step s = .next t ∧ t.runState = .error)

/-- The state after reset is Running with I set, B clear, counters 0, no NMI pending, toggle 0, and, by the model's choices, meets the invariants: 10_state.md R48, 70_reset_and_hazards.md R400, notes/assumptions 4: the empty memories are the model's choice, notes/assumptions 6: ctrl1 = 0x00, so bit 5 clear, which R48 leaves OPEN, is the model's choice, notes/assumptions 7: the injected blank cartridge behind the vector is the model's choice, notes/assumptions 9 and 14: no run in progress and no call listed, and busFault clear, are the model's own fields' values. -/
def Obligations.ResetStateHasWhatTheSpecGives : Prop :=
  State.reset.runState = .running ∧ State.reset.p.i = true ∧ State.reset.p.b = false ∧ State.reset.nmiCount = 0 ∧
  State.reset.rtiCount = 0 ∧ State.reset.nmiPending = false ∧ State.reset.penalty = 0 ∧ State.reset.ppu.toggle = false ∧
  VectorIs State.reset 0xFFFC (loByte State.reset.pc) (hiByte State.reset.pc) ∧
  State.reset.MemoriesCanonical ∧ State.reset.ControlInvariant ∧ State.reset.RunInvariant

/-- When the bytes at PC are an instruction's, a step executes it with PC past it, then counts its clocks; single step and PC's early advance: the model's choice: 30_encoding.md R101, 60_exceptions.md R351, R356, R366, 00_scope.md R11, notes/assumptions 9: the host's single step with no call listed (the clauses with Idle or settle none, and the step of a CPU that is not Running), which does not look at the following opcode byte as R366's run(base cost) does, is the model's choice, notes/assumptions 21: beginInstr, PC past the whole instruction before exec, is the model's choice, notes/assumptions 14: the clocks after a BusFault are a free value. -/
def Obligations.StepRunsTheDecodedInstruction : Prop :=
  (∀ s i, Idle s → fetchBytes (encode i).length s.pc s = .ok (encode i) →
    step s = onNext (settle none i.baseCost) (exec i (beginInstr (encode i).length s))) ∧
  (∀ s i c, s.run = some c → s.runState = .running → fetchBytes (encode i).length s.pc s = .ok (encode i) →
    c.spent + i.baseCost ≤ c.budget →
    step s = onNext (settle (some c) i.baseCost) (exec i (beginInstr (encode i).length s))) ∧
  (∀ s c op row, s.run = some c → s.runState = .running → fetchByte s.pc s = .ok op → opcodeRow op = some row →
    c.budget < c.spent + row.cycles → step s = .next { s with run := none, returned := .clocks c.spent }) ∧
  (∀ n s, beginInstr n s = { s with pc := s.pc + BitVec.ofNat 16 n, penalty := 0, stackFault := false, busFault := false }) ∧
  (∀ cost t, t.busFault = false → settle none cost t =
    { t with penalty := 0, stackFault := false, run := none, returned := .clocks (cost + t.penalty) }) ∧
  (∀ c cost t, t.busFault = false → t.runState = .running → settle (some c) cost t =
    { t with penalty := 0, stackFault := false, run := some { c with spent := c.spent + cost + t.penalty } }) ∧
  (∀ c cost t, t.busFault = false → t.runState ≠ .running → settle (some c) cost t =
    { t with penalty := 0, stackFault := false, run := none, returned := .clocks (c.spent + cost + t.penalty) }) ∧
  (∀ r cost t, t.busFault = true → t.runState ≠ .running → ∃ n, settle r cost t =
    { t with
      penalty := 0, stackFault := false, busFault := false, draws := t.draws + 1, run := none, returned := .clocks n }) ∧
  (∀ s c, s.run = some c → s.runState ≠ .running → step s = .next { s with run := none, returned := .clocks c.spent }) ∧
  (∀ s, s.run = none → s.calls = [] → s.runState ≠ .running → step s = .next { s with returned := .clocks 0 })

/-- An undefined opcode advances PC by one and puts the CPU in Error, whatever the budget, and changes nothing else: 30_encoding.md R117, 60_exceptions.md R350, R351, R356, 92_eei_decisions.md D13, notes/assumptions 9: the host's single step with no call listed is the model's choice. -/
def Obligations.UndefinedOpcodeEndsInErrorOnePastTheByte : Prop :=
  (∀ s c op, s.run = some c → s.runState = .running → fetchByte s.pc s = .ok op → opcodeRow op = none →
    step s = .next { s with pc := s.pc + 1#16, runState := .error, run := none, returned := .clocks c.spent }) ∧
  (∀ s op, Idle s → fetchByte s.pc s = .ok op → opcodeRow op = none →
    step s = .next { s with pc := s.pc + 1#16, runState := .error, returned := .clocks 0 })

/-- An instruction byte in 0x2000 to 0x7FFF refuses the step by name; a fetch from ROM without a cartridge ends in Error: 20_memory.md R77, 92_eei_decisions.md D39, 60_exceptions.md R350, R356, 00_scope.md R11, notes/assumptions 1, 2, 14 and 15: the order of the tests and the state after a refused fetch are the model's choice, notes/assumptions 9: the host's single step with no call listed (the clauses with Idle) is the model's choice. -/
def Obligations.InstructionFetchFromTheUndecodedRegionIsRefused : Prop :=
  (∀ s, Idle s → 0x2000 ≤ s.pc.toNat → s.pc.toNat < 0x8000 → step s = .refused .fetchRegion) ∧
  (∀ s c, s.run = some c → s.runState = .running → 0x2000 ≤ s.pc.toNat → s.pc.toNat < 0x8000 →
    step s = .refused .fetchRegion) ∧
  (∀ s op row k, Idle s → fetchByte s.pc s = .ok op → opcodeRow op = some row → 1 ≤ k → k ≤ row.mode.operandBytes →
    0x2000 ≤ (s.pc + BitVec.ofNat 16 k).toNat → (s.pc + BitVec.ofNat 16 k).toNat < 0x8000 → step s = .refused .fetchRegion) ∧
  (∀ s c op row k, s.run = some c → s.runState = .running → fetchByte s.pc s = .ok op → opcodeRow op = some row →
    c.spent + row.cycles ≤ c.budget → 1 ≤ k → k ≤ row.mode.operandBytes →
    0x2000 ≤ (s.pc + BitVec.ofNat 16 k).toNat → (s.pc + BitVec.ofNat 16 k).toNat < 0x8000 → step s = .refused .fetchRegion) ∧
  (∀ s, Idle s ∨ (∃ c, s.run = some c) ∧ s.runState = .running → 0x8000 ≤ s.pc.toNat → s.cart = none →
    ∃ pc draws clocks, step s = .next { s with
      pc := pc, runState := .error, penalty := 0, stackFault := false, busFault := false, draws := draws, run := none
      returned := .clocks clocks })

/-- At a JMP to itself every further step of a running CPU leaves the state unchanged but for the clocks returned: 70_reset_and_hazards.md R405, 43_control_flow.md R199, 92_eei_decisions.md D38, notes/assumptions 9: the host's single step with no call listed is the model's choice. -/
def Obligations.AFinishedProgramStaysFinished : Prop :=
  ∀ s : State, Idle s → s.ControlInvariant → s.Finished →
    step s = .next { s with returned := .clocks 3 } ∧
    Idle { s with returned := .clocks 3 } ∧ State.Finished { s with returned := .clocks 3 }

/-- The host reads the run state, the registers, the counters and MODE with no effect, its bus accesses act as a CPU access, and its mapper calls as the mapper says: 70_reset_and_hazards.md R404, 48_bus.md R300, R301, R306, R307, R308, R309, R310, R311, 10_state.md R22, R30, R31, 49_mapper.md R320, R322, R323, R325, R326, notes/assumptions 9, 10, 17 and 23: the list of host calls, where the result stands, the cartridge flash acts on, and the failure noCartridge are the model's choice. -/
def Obligations.HostOperationsReturnWhatTheBusGives : Prop :=
  ∀ s rest, s.run = none →
    (s.calls = .state :: rest → step s = .next { s with calls := rest, returned := .runState s.runState }) ∧
    (s.calls = .snapshot :: rest →
      step s = .next { s with calls := rest, returned := .registers s.a s.x s.y s.s (statusPushed s.p false) s.pc }) ∧
    (s.calls = .counters :: rest → step s = .next { s with calls := rest, returned := .counters s.nmiCount s.rtiCount }) ∧
    (s.calls = .getMode :: rest → step s = .next { s with calls := rest, returned := .mode s.mode }) ∧
    (∀ a v t, s.calls = .readMem a :: rest → memRead a { s with calls := rest } = .ok v t →
      step s = .next { t with returned := .byte v }) ∧
    (∀ a f, s.calls = .readMem a :: rest → memRead a { s with calls := rest } = .failed f →
      step s = .next { s with calls := rest, returned := .failed f }) ∧
    (∀ a v t, s.calls = .writeMem a v :: rest → memWrite a v { s with calls := rest } = .ok () t →
      step s = .next { t with returned := .nothing }) ∧
    (∀ a v f, s.calls = .writeMem a v :: rest → memWrite a v { s with calls := rest } = .failed f →
      step s = .next { s with calls := rest, returned := .failed f }) ∧
    (∀ k, s.calls = .readSpriteMem k :: rest →
      step s = .next { s with calls := rest, returned := .byte (s.spr.read (k % 256)) }) ∧
    (∀ k v, s.calls = .writeSpriteMem k v :: rest →
      step s = .next { s with calls := rest, spr := s.spr.write (k % 256) v, returned := .nothing }) ∧
    (s.calls = .generateNMI :: rest → step s = .next { s with calls := rest, nmiPending := true, returned := .nothing }) ∧
    (∀ c, s.calls = .injectCartridge c :: rest → step s = .next { s with calls := rest, cart := some c, returned := .nothing }) ∧
    (∀ a, s.calls = .readMem a :: rest → memRead a { s with calls := rest } = .fatal → step s = .fault .fatalVrom) ∧
    (∀ a v t, s.calls = .readVideoMem a :: rest → vidRead a.toNat { s with calls := rest } = .ok v t →
      step s = .next { s with calls := rest, returned := .byte v }) ∧
    (∀ a f, s.calls = .readVideoMem a :: rest → vidRead a.toNat { s with calls := rest } = .failed f →
      step s = .next { s with calls := rest, returned := .failed f }) ∧
    (∀ a, s.calls = .readVideoMem a :: rest → vidRead a.toNat { s with calls := rest } = .fatal →
      step s = .fault .fatalVrom) ∧
    (∀ a v t, s.calls = .writeVideoMem a v :: rest → vidWrite a.toNat v { s with calls := rest } = .ok () t →
      step s = .next { t with returned := .nothing }) ∧
    (∀ a v f, s.calls = .writeVideoMem a v :: rest → vidWrite a.toNat v { s with calls := rest } = .failed f →
      step s = .next { s with calls := rest, returned := .failed f }) ∧
    (∀ m, s.calls = .setMode m :: rest → step s = .next { s with calls := rest, mode := m, returned := .nothing }) ∧
    (∀ a c, s.calls = .readROM a :: rest → s.cart = some c → step s = .next { s with
      calls := rest
      returned :=
        if a.toNat < 0x8000 then .failed .illegalArgument
        else if a.toNat < 0xC000 then .byte (c.rom.read (a.toNat - 0x8000))
        else .byte (c.rom.read ((c.romPages - 1) * 0x4000 + (a.toNat - 0xC000))) }) ∧
    (∀ a c, s.calls = .readRAM a :: rest → s.cart = some c →
      step s = .next { s with calls := rest, returned := .failed .illegalOperation }) ∧
    (∀ a v c, s.calls = .writeRAM a v :: rest → s.cart = some c →
      step s = .next { s with calls := rest, returned := .failed .illegalOperation }) ∧
    (∀ a c, s.calls = .readVROM a :: rest → s.cart = some c → a < c.vromPages * 0x2000 →
      step s = .next { s with calls := rest, returned := .byte (c.vrom.read a) }) ∧
    (∀ a c, s.calls = .readVROM a :: rest → s.cart = some c → c.vromPages * 0x2000 ≤ a → step s = .fault .fatalVrom) ∧
    (∀ a buffer c, s.calls = .flash a buffer :: rest → s.cart = some c → ∃ free, step s = .next { s with
      calls := rest, draws := s.draws + 1, cart := some (c.flash free a buffer).2
      returned := match (c.flash free a buffer).1 with | none => .nothing | some f => .failed f }) ∧
    (∀ call a v k buffer, s.calls = call :: rest → s.cart = none →
      call ∈ [HostCall.readROM a, .readRAM a, .writeRAM a v, .readVROM k, .flash k buffer] →
      step s = .next { s with calls := rest, returned := .failed .noCartridge })

/-- No step leaves Error or Halted but the call of reset(), and no step enters Halted: 10_state.md R30, 60_exceptions.md R351, R367, notes/assumptions 9 and 10: the list of host calls in State and the field returned are the model's own form. -/
def Obligations.OnlyResetLeavesErrorAndNothingEntersHalted : Prop :=
  ∀ s t, step s = .next t →
    (s.runState ≠ .running → t.runState = s.runState ∨ (s.run = none ∧ ∃ rest, s.calls = .reset :: rest)) ∧
    (s.runState ≠ .halted → t.runState ≠ .halted) ∧
    (∀ budget rest, s.run = none → s.calls = .run budget :: rest → s.runState ≠ .running →
      t = { s with calls := rest, returned := .clocks 0 })

/-- A run call that does not end in a BusFault never returns more than max(budget + 2, 7) clocks: 60_exceptions.md R356, 70_reset_and_hazards.md R418, 92_eei_decisions.md D12, notes/assumptions 14: the clocks after a BusFault are a free value, notes/assumptions 9 and 10: the list of host calls in State and the field returned are the model's own form. -/
def Obligations.EveryStepKeepsTheRunWithinItsBound : Prop :=
  (∀ s t, s.RunInvariant → step s = .next t → t.RunInvariant) ∧
  (∀ s t c n, s.RunInvariant → s.run = some c → ¬ BusFaultAhead s → step s = .next t → t.run = none →
    t.returned = .clocks n → n ≤ max (c.budget + 2) 7) ∧
  (∀ s t budget rest n, s.run = none → s.calls = .run budget :: rest → s.cart ≠ none → step s = .next t → t.run = none →
    t.returned = .clocks n → n ≤ max (budget + 2) 7)

/-- Every step keeps every memory canonical and within its size: 10_state.md R41, R42, R43, R44, 49_mapper.md R326, 48_bus.md R301, R307, R308, notes/assumptions 9: the list of host calls in State is the model's own form. -/
def Obligations.EveryStepKeepsMemoryCanonical : Prop :=
  ∀ s t, s.MemoriesCanonical → step s = .next t → t.MemoriesCanonical

/-- Every step keeps B = 0, 8x16 sprites off, and nothing local to an instruction set: 10_state.md R22, R34, 46_ppu_registers.md R241, 44_stack_and_flags.md R212, notes/assumptions 14: the flag busFault is the model's own. -/
def Obligations.EveryStepKeepsTheControlInvariant : Prop :=
  ∀ s t, s.ControlInvariant → step s = .next t → t.ControlInvariant

/-- An instruction not listed as a writer of a flag leaves that flag unchanged; no instruction writes B: 10_state.md R22, R23, 00_scope.md R11, notes/assumptions 1 and 2: what a refused access leaves unchanged is the model's choice. -/
def Obligations.FlagsAreWrittenOnlyByTheListedInstructions : Prop :=
  ∀ (i : Instr) (s t : State), exec i s = .next t →
    (mnemonicOf i ∉ ["ADC", "SBC", "CMP", "CPX", "CPY", "ASL", "LSR", "ROL", "ROR", "CLC", "SEC", "PLP", "RTI"] → t.p.c = s.p.c) ∧
    (mnemonicOf i ∉ ["LDA", "LDX", "LDY", "TAX", "TAY", "TXA", "TYA", "TSX", "PLA", "AND", "ORA", "EOR", "ADC", "SBC", "CMP", "CPX", "CPY", "BIT", "INC", "DEC", "INX", "INY", "DEX", "DEY", "ASL", "LSR", "ROL", "ROR", "PLP", "RTI"] → t.p.z = s.p.z ∧ t.p.n = s.p.n) ∧
    (mnemonicOf i ∉ ["SEI", "CLI", "PLP", "RTI", "BRK"] → t.p.i = s.p.i) ∧
    (mnemonicOf i ∉ ["SED", "CLD", "PLP", "RTI"] → t.p.d = s.p.d) ∧
    (mnemonicOf i ∉ ["ADC", "SBC", "BIT", "CLV", "PLP", "RTI"] → t.p.v = s.p.v) ∧
    t.p.b = s.p.b

/-- A, X, Y, S and PC are each changed only by the instructions that write them: 10_state.md R20, R21, R24, 00_scope.md R11, notes/assumptions 1 and 2: what a refused access leaves unchanged is the model's choice. -/
def Obligations.RegistersAreWrittenOnlyByTheirInstructions : Prop :=
  ∀ (i : Instr) (s t : State), exec i s = .next t →
    (mnemonicOf i ∉ ["LDA", "TXA", "TYA", "PLA", "ADC", "SBC", "AND", "ORA", "EOR"] → modeOf i ≠ .accumulator → t.a = s.a) ∧
    (mnemonicOf i ∉ ["LDX", "TAX", "TSX", "INX", "DEX"] → t.x = s.x) ∧
    (mnemonicOf i ∉ ["LDY", "TAY", "INY", "DEY"] → t.y = s.y) ∧
    (mnemonicOf i ∉ ["TXS", "PHA", "PHP", "PLA", "PLP", "JSR", "RTS", "BRK", "RTI"] → t.s = s.s) ∧
    (mnemonicOf i ∉ ["BCC", "BCS", "BEQ", "BMI", "BNE", "BPL", "BVC", "BVS", "JMP", "JSR", "RTS", "RTI", "BRK"] → t.pc = s.pc)

/-- No instruction changes nmi_count, nmi_pending, MODE, the cartridge or the host's calls; only RTI counts in rti_count: 45_system.md R233, 10_state.md R31, R47, 49_mapper.md R327, 00_scope.md R11, notes/assumptions 1 and 2: what a refused access leaves unchanged is the model's choice, notes/assumptions 9 and 10: the fields calls, run, returned and frame are the model's own form. -/
def Obligations.InstructionsDoNotReachHostState : Prop :=
  ∀ (i : Instr) (s t : State), exec i s = .next t →
    t.nmiCount = s.nmiCount ∧ t.nmiPending = s.nmiPending ∧ t.mode = s.mode ∧ t.cart = s.cart ∧ t.calls = s.calls ∧
    t.run = s.run ∧ t.returned = s.returned ∧ t.frame = s.frame ∧
    t.rtiCount = s.rtiCount + (if i = .rti then 1 else 0) ∧ (t.runState = s.runState ∨ t.runState = .error)

/-- An instruction that neither stores nor pushes leaves every byte of every memory unchanged: 40_load_store_transfer.md R140, 20_memory.md R64, 00_scope.md R11, notes/assumptions 1 and 2: what a refused access leaves unchanged is the model's choice. -/
def Obligations.InstructionsThatDoNotStoreKeepMemory : Prop :=
  ∀ (i : Instr) (s t : State), storedAt i s = none → pushes i = 0 → exec i s = .next t → KeepsMemory s t

/-- STA, STX, STY leave every byte their store does not reach, and every register and flag: 40_load_store_transfer.md R140, R144, R145, R146, 48_bus.md R301, R302, 00_scope.md R11, notes/assumptions 1 and 2: what a refused access leaves unchanged is the model's choice. -/
def Obligations.StoresKeepEveryOtherByte : Prop :=
  ∀ (i : Instr) (s t : State) (ea : Addr), mnemonicOf i ∈ ["STA", "STX", "STY"] → storedAt i s = some ea → exec i s = .next t →
    KeepsOtherBytes ea s t ∧ t.a = s.a ∧ t.x = s.x ∧ t.y = s.y ∧ t.s = s.s ∧ t.p = s.p ∧ t.pc = s.pc ∧
    t.nmiCount = s.nmiCount ∧ t.rtiCount = s.rtiCount ∧ (ea.toNat < 0x2000 ∨ 0x4000 ≤ ea.toNat → t.ppu = s.ppu)

/-- PHA, PHP, JSR and BRK leave every byte but those at the one, two or three stack addresses they push to: 44_stack_and_flags.md R210, R213, R214, 43_control_flow.md R200, 45_system.md R230, 60_exceptions.md R357, 00_scope.md R11, notes/assumptions 1 and 2: what a refused access leaves unchanged is the model's choice. -/
def Obligations.PushesKeepEveryOtherByte : Prop :=
  ∀ (i : Instr) (s t : State), 0 < pushes i → exec i s = .next t →
    (∀ b : Addr, (∀ k, k < pushes i → b.toNat % 0x0800 ≠ below s k) → t.readRam b = s.readRam b) ∧
    t.nt = s.nt ∧ t.pal = s.pal ∧ t.spr = s.spr ∧ t.cart = s.cart ∧ t.ppu = s.ppu ∧ t.s = s.s - BitVec.ofNat 8 (pushes i) ∧
    t.a = s.a ∧ t.x = s.x ∧ t.y = s.y

/-- INC, DEC and the memory shifts leave every byte their write does not reach, and every register: 41_arithmetic_logic.md R173, R174, 42_shift_rotate.md R180, 20_memory.md R64, 00_scope.md R11, notes/assumptions 1 and 2: the memory and flags kept after a refused access are the model's choice. -/
def Obligations.ReadModifyWritesKeepEveryOtherByte : Prop :=
  ∀ (i : Instr) (s t : State) (ea : Addr), mnemonicOf i ∈ ["INC", "DEC", "ASL", "LSR", "ROL", "ROR"] → storedAt i s = some ea →
    exec i s = .next t →
    (∀ m u, memRead ea s = .ok m u → KeepsOtherBytes ea u t) ∧ (∀ f, memRead ea s = .failed f → KeepsMemory s t) ∧
    t.a = s.a ∧ t.x = s.x ∧ t.y = s.y ∧ t.s = s.s ∧ t.pc = s.pc ∧ t.p.i = s.p.i ∧ t.p.d = s.p.d ∧ t.p.v = s.p.v ∧ t.p.b = s.p.b ∧
    (ea.toNat < 0x2000 ∨ 0x4000 ≤ ea.toNat → t.ppu = s.ppu)

/-- Every instruction answers a next state in every state, but for a fatal VROM read, and none is refused: 60_exceptions.md R350, R360, 49_mapper.md R325, 00_scope.md R11, notes/assumptions 1: that a refused access or a stack wrap answers a next state in Error is the model's choice. -/
def Obligations.EveryInstructionAnswersANextStateUnlessVromIsMissing : Prop :=
  ∀ (i : Instr) (s : State),
    (∀ e, exec i s ≠ .refused e) ∧
    (∀ e, exec i s = .fault e → e = .fatalVrom ∧ ∃ c, s.cart = some c ∧ c.vromPages = 0) ∧
    ((∀ c, s.cart = some c → c.vromPages ≠ 0) → ∃ t, exec i s = .next t)

/-- A CPU read gives the RAM byte mod 0x0800, the PPU slot, a failure, or the first or last ROM page's byte: 48_bus.md R300, R302, 20_memory.md R67, 49_mapper.md R322, R323, notes/assumptions 23: the failure names undecoded and noCartridge are the model's choice. -/
def Obligations.CpuReadsFollowTheAddressMap : Prop :=
  ∀ (a : Addr) (s : State),
    (a.toNat < 0x2000 → memRead a s = .ok (s.ram.read (a.toNat % 0x0800)) s) ∧
    (0x2000 ≤ a.toNat → a.toNat < 0x4000 → memRead a s = ppuRead (Slot.ofAddr a) s) ∧
    (0x4000 ≤ a.toNat → a.toNat < 0x4020 → memRead a s = .failed .undecoded) ∧
    (0x4020 ≤ a.toNat → s.cart = none → memRead a s = .failed .noCartridge) ∧
    (∀ c, s.cart = some c → 0x4020 ≤ a.toNat → a.toNat < 0x8000 → memRead a s = .failed .illegalOperation) ∧
    (∀ c, s.cart = some c → 0x8000 ≤ a.toNat → a.toNat < 0xC000 → memRead a s = .ok (c.rom.read (a.toNat - 0x8000)) s) ∧
    (∀ c, s.cart = some c → 0xC000 ≤ a.toNat →
      memRead a s = .ok (c.rom.read ((c.romPages - 1) * 0x4000 + (a.toNat - 0xC000))) s)

/-- A CPU write writes the RAM byte mod 0x0800 or the PPU slot; above 0x3FFF it fails; a byte written is read back at every mirror: 48_bus.md R301, R302, 20_memory.md R67, 49_mapper.md R323. -/
def Obligations.CpuWritesFollowTheAddressMap : Prop :=
  ∀ (a : Addr) (v : Byte) (s : State),
    (a.toNat < 0x2000 → memWrite a v s = .ok () { s with ram := s.ram.write (a.toNat % 0x0800) v }) ∧
    (∀ b t, s.ram.wf → a.toNat < 0x2000 → b.toNat < 0x2000 → b.toNat % 0x0800 = a.toNat % 0x0800 → memWrite a v s = .ok () t →
      memRead b t = .ok v t) ∧
    (0x2000 ≤ a.toNat → a.toNat < 0x4000 → memWrite a v s = ppuWrite (Slot.ofAddr a) v s) ∧
    (0x4000 ≤ a.toNat → ∃ f, memWrite a v s = .failed f)

/-- Reads of the slots: Status clears vblank only; the data ports return the addressed byte and step their address; the rest is any value: 46_ppu_registers.md R243, R245, R247, R249, R250, 48_bus.md R303, R306, 49_mapper.md R325, notes/assumptions 3, 11, 12 and 13: the form of the free values, drawn by the counter draws, is the model's own. -/
def Obligations.PpuReadsHaveTheirSideEffects : Prop :=
  (∀ s, ∃ r, ppuRead .status s = .ok r { s with ppu := { s.ppu with vblank := false }, draws := s.draws + 1 } ∧
    r.getLsbD 7 = s.ppu.vblank ∧ r.getLsbD 5 = s.ppu.sprOverflow) ∧
  (∀ s, ppuRead .spriteMemData s = .ok (s.spr.read s.ppu.sprAddr.toNat) { s with ppu := { s.ppu with sprAddr := s.ppu.sprAddr + 1#8 } } ∨
    ppuRead .spriteMemData s = .ok (s.spr.read s.ppu.sprAddr.toNat) s) ∧
  (∀ s v t, vidRead s.ppu.vaddr.toNat s = .ok v t → ppuRead .videoMemData s =
    .ok v { s with ppu := { s.ppu with vaddr := s.ppu.vaddr + (if s.ppu.ctrl1.getLsbD 2 then 32#16 else 1#16) } }) ∧
  (∀ s f, vidRead s.ppu.vaddr.toNat s = .failed f → ppuRead .videoMemData s = .failed f) ∧
  (∀ s, vidRead s.ppu.vaddr.toNat s = .fatal → ppuRead .videoMemData s = .fatal) ∧
  (∀ s (n : Slot), n ∈ [Slot.control1, .control2, .spriteMemAddress, .scroll, .videoMemAddress] →
    ∃ r, ppuRead n s = .ok r { s with draws := s.draws + 1 })

/-- Writes of the slots: Control1 rejects bit 5, Scroll and VideoMemAddress share the toggle, the data ports write and step: 46_ppu_registers.md R241, R242, R244, R245, R246, R247, R248, R249, R250, 48_bus.md R307, notes/assumptions 23: the failure name vramWrite is the model's choice. -/
def Obligations.PpuWritesHaveTheirSideEffects : Prop :=
  (∀ v s, v.getLsbD 5 = true → ppuWrite .control1 v s = .failed .illegalOperation) ∧
  (∀ v s, v.getLsbD 5 = false → ppuWrite .control1 v s = .ok () { s with ppu := { s.ppu with ctrl1 := v } }) ∧
  (∀ v s, ppuWrite .control2 v s = .ok () { s with ppu := { s.ppu with ctrl2 := v } }) ∧
  (∀ v s, ppuWrite .status v s = .ok () s) ∧
  (∀ v s, ppuWrite .spriteMemAddress v s = .ok () { s with ppu := { s.ppu with sprAddr := v } }) ∧
  (∀ v s, ppuWrite .spriteMemData v s = .ok () { s with
    spr := s.spr.write s.ppu.sprAddr.toNat v, ppu := { s.ppu with sprAddr := s.ppu.sprAddr + 1#8 } }) ∧
  (∀ v s, s.ppu.toggle = false → ppuWrite .scroll v s = .ok () { s with ppu := { s.ppu with scrollV := v, toggle := true } }) ∧
  (∀ v s, s.ppu.toggle = true → ppuWrite .scroll v s = .ok () { s with ppu := { s.ppu with scrollH := v, toggle := false } }) ∧
  (∀ v s, s.ppu.toggle = false → ppuWrite .videoMemAddress v s =
    .ok () { s with ppu := { s.ppu with vaddr := addrOf v (loByte s.ppu.vaddr), toggle := true } }) ∧
  (∀ v s, s.ppu.toggle = true → ppuWrite .videoMemAddress v s =
    .ok () { s with ppu := { s.ppu with vaddr := addrOf (hiByte s.ppu.vaddr) v, toggle := false } }) ∧
  (∀ v s t, vidWrite s.ppu.vaddr.toNat v s = .ok () t → ppuWrite .videoMemData v s =
    .ok () { t with ppu := { s.ppu with vaddr := s.ppu.vaddr + (if s.ppu.ctrl1.getLsbD 2 then 32#16 else 1#16) } }) ∧
  (∀ v s, s.ppu.vaddr.toNat % 0x4000 < 0x2000 → ppuWrite .videoMemData v s = .failed .vramWrite)

/-- Video addresses decode mod 0x4000 to VROM, nametables (mirrored above 0x3000) and palette (with its four aliases): 48_bus.md R306, R307, 20_memory.md R68, 49_mapper.md R325, notes/assumptions 23: the failure names noCartridge and vramWrite are the model's choice. -/
def Obligations.VideoAddressesDecodeByTheMap : Prop :=
  ∀ (a : Nat) (v : Byte) (s : State),
    (∀ c, a % 0x4000 < 0x2000 → s.cart = some c → 1 ≤ c.vromPages → vidRead a s = .ok (c.vrom.read (a % 0x4000)) s) ∧
    (∀ c, a % 0x4000 < 0x2000 → s.cart = some c → c.vromPages = 0 → vidRead a s = .fatal) ∧
    (a % 0x4000 < 0x2000 → s.cart = none → vidRead a s = .failed .noCartridge) ∧
    (a % 0x4000 < 0x2000 → vidWrite a v s = .failed .vramWrite) ∧
    (0x2000 ≤ a % 0x4000 → a % 0x4000 < 0x3F00 →
      vidRead a s = .ok (s.nt.read ((a % 0x4000 - 0x2000) % 0x1000)) s ∧
      vidWrite a v s = .ok () { s with nt := s.nt.write ((a % 0x4000 - 0x2000) % 0x1000) v }) ∧
    (0x3F00 ≤ a % 0x4000 →
      vidRead a s = .ok (s.pal.read (if a % 32 ∈ [0x10, 0x14, 0x18, 0x1C] then a % 32 - 0x10 else a % 32)) s ∧
      vidWrite a v s = .ok () { s with pal := s.pal.write (if a % 32 ∈ [0x10, 0x14, 0x18, 0x1C] then a % 32 - 0x10 else a % 32) v })

/-- update() ends with vblank set, requests an NMI exactly if nmi_enable is set, and changes nothing else the CPU can see but spr0_hit: 47_ppu_rendering.md R271, R274, R279, R282, 48_bus.md R300, R309, 49_mapper.md R325, notes/assumptions 11 and 16: the bit left in spr0_hit and the three faults are the model's choice, notes/assumptions 9 and 10: the list of host calls in State and the field returned are the model's own form. -/
def Obligations.UpdateSetsVblankAndRequestsTheNmi : Prop :=
  (∀ s rest, s.run = none → s.calls = .update :: rest → s.ppu.ctrl1.getLsbD 5 = false →
    (s.ppu.bgVisible = false ∧ s.ppu.sprVisible = false ∨ ∃ c, s.cart = some c ∧ c.vromPages ≠ 0) →
    ∃ hit, step s = .next { s with
      calls := rest
      ppu := { s.ppu with vblank := true, spr0Hit := hit }
      nmiPending := s.nmiPending || s.ppu.ctrl1.getLsbD 7
      draws := s.draws + 1, returned := .nothing
      frame := composeFrame { s with calls := rest, ppu := { s.ppu with vblank := false } } }) ∧
  (∀ s rest, s.run = none → s.calls = .update :: rest → s.ppu.ctrl1.getLsbD 5 = true → step s = .fault .sprites8x16) ∧
  (∀ s rest, s.run = none → s.calls = .update :: rest → s.ppu.ctrl1.getLsbD 5 = false →
    s.ppu.bgVisible = true ∨ s.ppu.sprVisible = true → s.cart = none → step s = .fault .updateNoCartridge) ∧
  (∀ s rest c, s.run = none → s.calls = .update :: rest → s.ppu.ctrl1.getLsbD 5 = false →
    s.ppu.bgVisible = true ∨ s.ppu.sprVisible = true → s.cart = some c → c.vromPages = 0 → step s = .fault .fatalVrom)

/-- The frame is the backdrop, the symbol of every visible background tile, the symbols of the 64 sprites from slot 63 down, and draw: 47_ppu_rendering.md R270, R271, R272, R273, R274, R275, R277, 48_bus.md R306, 10_state.md R36, R37, R41. -/
def Obligations.BackgroundPassEmitsEveryVisibleTile : Prop :=
  (∀ s c, s.cart = some c → 1 ≤ c.vromPages →
    backgroundPass s =
      (rowsShown s).flatMap (fun r =>
        (List.range (if s.ppu.scrollH.toNat % 8 = 0 then 32 else 33)).map (backgroundTile s c r)) ∧
    spritePass s = (List.range 64).map (fun k => spriteTile s c (63 - k)) ∧
    composeFrame s =
      .setBackground (colorIn (s.pal.read 0)) ::
        ((if s.ppu.ctrl2.getLsbD 3 then backgroundPass s else []) ++ (if s.ppu.ctrl2.getLsbD 4 then spritePass s else []) ++
          [.draw])) ∧
  (∀ s : State,
    (backgroundPass s).length =
      (match s.mode with | .full => (if s.ppu.scrollV.toNat % 8 = 0 then 30 else 31) | .short => 28) *
        (if s.ppu.scrollH.toNat % 8 = 0 then 32 else 33) ∧
    (spritePass s).length = 64)

/-- After a flash that succeeds every byte is read back at its CPU address, across the split too: 49_mapper.md R322, R326, notes/assumptions 17: size as the buffer's length, and the free bit, are the model's own form. -/
def Obligations.FlashedBytesAreReadBack : Prop :=
  ∀ (c : Cartridge) (free : Bool) (addr : Nat) (buffer : List Byte), 2 ≤ c.romPages → c.rom.wf →
    (∀ c', c.flash free addr buffer = (none, c') →
      (∀ k, k < buffer.length → c'.readROM (addr + k) = .ok (buffer.getD k 0#8)) ∧
      (∀ a, a < 0x10000 → a < addr ∨ addr + buffer.length ≤ a → c'.readROM a = c.readROM a)) ∧
    (addr < 0x8000 ∨ 0xFFFF < addr → c.flash free addr buffer = (some .illegalArgument, c)) ∧
    (0x8000 ≤ addr → addr ≤ 0xFFFF → ((c.flash free addr buffer).1 = none ↔ addr + buffer.length ≤ 0x10000)) ∧
    (0x8000 ≤ addr → addr ≤ 0xFFFF → 0x10000 < addr + buffer.length → (c.flash free addr buffer).1 = some .sizeOverflow)
end

