-- ==== Sys2Proof/Laws/Memory.lean ====
section
/-! SUPPORT. A read after a write, and that every memory operation keeps the canonical form. -/

namespace Sys2Proof.Machine

theorem Memory.read_write_same (m : Memory) (a : Nat) (v : Byte) (h : m.Pairwise (fun c d => c.1 < d.1)) :
    (m.write a v).read a = v := by
  induction m with
  | nil => by_cases hv : v = Memory.blank <;> simp [Memory.write, Memory.read, hv]
  | cons c m ih =>
    obtain ⟨k, w⟩ := c
    obtain ⟨hk, hm⟩ := List.pairwise_cons.mp h
    have absent : ∀ (l : Memory), (∀ c ∈ l, a < c.1) → l.read a = Memory.blank := by
      intro l
      induction l with
      | nil => intro _; rfl
      | cons d l ihl =>
        intro hl
        have h1 := hl d (by simp)
        have h2 := ihl (fun c hc => hl c (by simp [hc]))
        simp only [Memory.read]
        rw [if_neg (by omega), h2]
    by_cases h1 : a < k
    · by_cases hv : v = Memory.blank
      · have : ∀ c ∈ (k, w) :: m, a < c.1 := by
          intro c hc
          rcases List.mem_cons.mp hc with rfl | hc
          · exact h1
          · exact lt_trans h1 (hk c hc)
        simpa [Memory.write, h1, hv] using absent _ this
      · simp [Memory.write, h1, hv, Memory.read]
    · by_cases h2 : a = k
      · subst h2
        by_cases hv : v = Memory.blank
        · simpa [Memory.write, hv] using absent m hk
        · simp [Memory.write, hv, Memory.read]
      · have h3 : k ≠ a := fun h => h2 h.symm
        simpa [Memory.write, h1, h2, Memory.read, h3] using ih hm

theorem Memory.read_write_other (m : Memory) (a b : Nat) (v : Byte) (hab : a ≠ b) :
    (m.write a v).read b = m.read b := by
  induction m with
  | nil => by_cases hv : v = Memory.blank <;> simp [Memory.write, Memory.read, hv, hab]
  | cons c m ih =>
    obtain ⟨k, w⟩ := c
    by_cases h1 : a < k
    · by_cases hv : v = Memory.blank <;> simp [Memory.write, h1, hv, Memory.read, hab]
    · by_cases h2 : a = k
      · subst h2
        by_cases hv : v = Memory.blank <;> simp [Memory.write, hv, Memory.read, hab]
      · simp [Memory.write, h1, h2, Memory.read, ih]

theorem Memory.mem_write {m : Memory} {a : Nat} {v : Byte} {c : Host.Cell} (hc : c ∈ m.write a v) :
    (c = (a, v) ∧ v ≠ Memory.blank) ∨ c ∈ m := by
  induction m with
  | nil =>
    by_cases hv : v = Memory.blank
    · simp [Memory.write, hv] at hc
    · simp only [Memory.write, if_neg hv, List.mem_singleton] at hc
      exact .inl ⟨hc, hv⟩
  | cons d m ih =>
    obtain ⟨k, w⟩ := d
    simp only [Memory.write] at hc
    split at hc
    · split at hc
      · exact .inr hc
      · rcases List.mem_cons.mp hc with rfl | hc
        · exact .inl ⟨rfl, ‹_›⟩
        · exact .inr hc
    · split at hc
      · split at hc
        · exact .inr (List.mem_cons_of_mem _ hc)
        · rcases List.mem_cons.mp hc with rfl | hc
          · exact .inl ⟨rfl, ‹_›⟩
          · exact .inr (List.mem_cons_of_mem _ hc)
      · rcases List.mem_cons.mp hc with rfl | hc
        · exact .inr (by simp)
        · exact (ih hc).imp_right (List.mem_cons_of_mem _)

theorem Memory.pairwise_write {m : Memory} (a : Nat) (v : Byte) (h : m.Pairwise (fun c d => c.1 < d.1)) :
    (m.write a v).Pairwise (fun c d => c.1 < d.1) := by
  induction m with
  | nil => by_cases hv : v = Memory.blank <;> simp [Memory.write, hv]
  | cons d m ih =>
    obtain ⟨k, w⟩ := d
    obtain ⟨hk, hm⟩ := List.pairwise_cons.mp h
    simp only [Memory.write]
    split
    · split
      · exact h
      · refine List.pairwise_cons.mpr ⟨fun c hc => ?_, h⟩
        rcases List.mem_cons.mp hc with rfl | hc
        · assumption
        · exact lt_trans ‹a < k› (hk c hc)
    · split
      · rename_i heq
        split
        · exact hm
        · exact List.pairwise_cons.mpr ⟨fun c hc => heq ▸ hk c hc, hm⟩
      · refine List.pairwise_cons.mpr ⟨fun c hc => ?_, ih hm⟩
        rcases Memory.mem_write hc with ⟨rfl, _⟩ | hc
        · simp only; omega
        · exact hk c hc

/-- A write keeps the canonical form. -/
theorem Memory.wf_write {m : Memory} (a : Nat) (v : Byte) (h : m.wf) : (m.write a v).wf := by
  refine ⟨Memory.pairwise_write a v h.1, fun c hc => ?_⟩
  rcases Memory.mem_write hc with ⟨rfl, hv⟩ | hc
  · exact hv
  · exact h.2 c hc

/-- A write inside a memory keeps its canonical form and its bound. -/
theorem Memory.wfIn_write {size : Nat} {m : Memory} {a : Nat} (v : Byte) (ha : a < size) (h : m.wfIn size) :
    (m.write a v).wfIn size := by
  refine ⟨Memory.wf_write a v h.1, fun c hc => ?_⟩
  rcases Memory.mem_write hc with ⟨rfl, _⟩ | hc
  · exact ha
  · exact h.2 c hc

/-- Consecutive writes inside a memory keep its canonical form and its bound. -/
theorem Memory.wfIn_writeAll {size : Nat} {vs : List Byte} {m : Memory} {a : Nat} (ha : a + vs.length ≤ size)
    (h : m.wfIn size) : (m.writeAll a vs).wfIn size := by
  induction vs generalizing m a with
  | nil => exact h
  | cons v vs ih =>
    simp only [List.length_cons] at ha
    exact ih (by omega) (Memory.wfIn_write v (by omega) h)

theorem Memory.wfIn_nil (size : Nat) : Memory.wfIn size [] := by simp [Memory.wfIn, Memory.wf]

end Sys2Proof.Machine
end

