-- ==== Sys2Proof/Laws/State.lean ====
section
/-! SUPPORT. What each named update of State leaves in each field. -/

namespace Sys2Proof.Machine

variable (st : State)

@[simp] theorem State.setA_a (v : Byte) : (st.setA v).a = v := rfl
@[simp] theorem State.setA_x (v : Byte) : (st.setA v).x = st.x := rfl
@[simp] theorem State.setA_y (v : Byte) : (st.setA v).y = st.y := rfl
@[simp] theorem State.setA_s (v : Byte) : (st.setA v).s = st.s := rfl
@[simp] theorem State.setA_p (v : Byte) : (st.setA v).p = st.p := rfl
@[simp] theorem State.setA_pc (v : Byte) : (st.setA v).pc = st.pc := rfl
@[simp] theorem State.setA_runState (v : Byte) : (st.setA v).runState = st.runState := rfl
@[simp] theorem State.setA_nmiCount (v : Byte) : (st.setA v).nmiCount = st.nmiCount := rfl
@[simp] theorem State.setA_rtiCount (v : Byte) : (st.setA v).rtiCount = st.rtiCount := rfl
@[simp] theorem State.setA_nmiPending (v : Byte) : (st.setA v).nmiPending = st.nmiPending := rfl
@[simp] theorem State.setA_penalty (v : Byte) : (st.setA v).penalty = st.penalty := rfl
@[simp] theorem State.setA_stackFault (v : Byte) : (st.setA v).stackFault = st.stackFault := rfl
@[simp] theorem State.setA_busFault (v : Byte) : (st.setA v).busFault = st.busFault := rfl
@[simp] theorem State.setA_ppu (v : Byte) : (st.setA v).ppu = st.ppu := rfl
@[simp] theorem State.setA_ram (v : Byte) : (st.setA v).ram = st.ram := rfl
@[simp] theorem State.setA_nt (v : Byte) : (st.setA v).nt = st.nt := rfl
@[simp] theorem State.setA_pal (v : Byte) : (st.setA v).pal = st.pal := rfl
@[simp] theorem State.setA_spr (v : Byte) : (st.setA v).spr = st.spr := rfl
@[simp] theorem State.setA_cart (v : Byte) : (st.setA v).cart = st.cart := rfl
@[simp] theorem State.setA_mode (v : Byte) : (st.setA v).mode = st.mode := rfl
@[simp] theorem State.setA_draws (v : Byte) : (st.setA v).draws = st.draws := rfl
@[simp] theorem State.setA_calls (v : Byte) : (st.setA v).calls = st.calls := rfl
@[simp] theorem State.setA_run (v : Byte) : (st.setA v).run = st.run := rfl
@[simp] theorem State.setA_returned (v : Byte) : (st.setA v).returned = st.returned := rfl
@[simp] theorem State.setA_frame (v : Byte) : (st.setA v).frame = st.frame := rfl

@[simp] theorem State.setX_a (v : Byte) : (st.setX v).a = st.a := rfl
@[simp] theorem State.setX_x (v : Byte) : (st.setX v).x = v := rfl
@[simp] theorem State.setX_y (v : Byte) : (st.setX v).y = st.y := rfl
@[simp] theorem State.setX_s (v : Byte) : (st.setX v).s = st.s := rfl
@[simp] theorem State.setX_p (v : Byte) : (st.setX v).p = st.p := rfl
@[simp] theorem State.setX_pc (v : Byte) : (st.setX v).pc = st.pc := rfl
@[simp] theorem State.setX_runState (v : Byte) : (st.setX v).runState = st.runState := rfl
@[simp] theorem State.setX_nmiCount (v : Byte) : (st.setX v).nmiCount = st.nmiCount := rfl
@[simp] theorem State.setX_rtiCount (v : Byte) : (st.setX v).rtiCount = st.rtiCount := rfl
@[simp] theorem State.setX_nmiPending (v : Byte) : (st.setX v).nmiPending = st.nmiPending := rfl
@[simp] theorem State.setX_penalty (v : Byte) : (st.setX v).penalty = st.penalty := rfl
@[simp] theorem State.setX_stackFault (v : Byte) : (st.setX v).stackFault = st.stackFault := rfl
@[simp] theorem State.setX_busFault (v : Byte) : (st.setX v).busFault = st.busFault := rfl
@[simp] theorem State.setX_ppu (v : Byte) : (st.setX v).ppu = st.ppu := rfl
@[simp] theorem State.setX_ram (v : Byte) : (st.setX v).ram = st.ram := rfl
@[simp] theorem State.setX_nt (v : Byte) : (st.setX v).nt = st.nt := rfl
@[simp] theorem State.setX_pal (v : Byte) : (st.setX v).pal = st.pal := rfl
@[simp] theorem State.setX_spr (v : Byte) : (st.setX v).spr = st.spr := rfl
@[simp] theorem State.setX_cart (v : Byte) : (st.setX v).cart = st.cart := rfl
@[simp] theorem State.setX_mode (v : Byte) : (st.setX v).mode = st.mode := rfl
@[simp] theorem State.setX_draws (v : Byte) : (st.setX v).draws = st.draws := rfl
@[simp] theorem State.setX_calls (v : Byte) : (st.setX v).calls = st.calls := rfl
@[simp] theorem State.setX_run (v : Byte) : (st.setX v).run = st.run := rfl
@[simp] theorem State.setX_returned (v : Byte) : (st.setX v).returned = st.returned := rfl
@[simp] theorem State.setX_frame (v : Byte) : (st.setX v).frame = st.frame := rfl

@[simp] theorem State.setY_a (v : Byte) : (st.setY v).a = st.a := rfl
@[simp] theorem State.setY_x (v : Byte) : (st.setY v).x = st.x := rfl
@[simp] theorem State.setY_y (v : Byte) : (st.setY v).y = v := rfl
@[simp] theorem State.setY_s (v : Byte) : (st.setY v).s = st.s := rfl
@[simp] theorem State.setY_p (v : Byte) : (st.setY v).p = st.p := rfl
@[simp] theorem State.setY_pc (v : Byte) : (st.setY v).pc = st.pc := rfl
@[simp] theorem State.setY_runState (v : Byte) : (st.setY v).runState = st.runState := rfl
@[simp] theorem State.setY_nmiCount (v : Byte) : (st.setY v).nmiCount = st.nmiCount := rfl
@[simp] theorem State.setY_rtiCount (v : Byte) : (st.setY v).rtiCount = st.rtiCount := rfl
@[simp] theorem State.setY_nmiPending (v : Byte) : (st.setY v).nmiPending = st.nmiPending := rfl
@[simp] theorem State.setY_penalty (v : Byte) : (st.setY v).penalty = st.penalty := rfl
@[simp] theorem State.setY_stackFault (v : Byte) : (st.setY v).stackFault = st.stackFault := rfl
@[simp] theorem State.setY_busFault (v : Byte) : (st.setY v).busFault = st.busFault := rfl
@[simp] theorem State.setY_ppu (v : Byte) : (st.setY v).ppu = st.ppu := rfl
@[simp] theorem State.setY_ram (v : Byte) : (st.setY v).ram = st.ram := rfl
@[simp] theorem State.setY_nt (v : Byte) : (st.setY v).nt = st.nt := rfl
@[simp] theorem State.setY_pal (v : Byte) : (st.setY v).pal = st.pal := rfl
@[simp] theorem State.setY_spr (v : Byte) : (st.setY v).spr = st.spr := rfl
@[simp] theorem State.setY_cart (v : Byte) : (st.setY v).cart = st.cart := rfl
@[simp] theorem State.setY_mode (v : Byte) : (st.setY v).mode = st.mode := rfl
@[simp] theorem State.setY_draws (v : Byte) : (st.setY v).draws = st.draws := rfl
@[simp] theorem State.setY_calls (v : Byte) : (st.setY v).calls = st.calls := rfl
@[simp] theorem State.setY_run (v : Byte) : (st.setY v).run = st.run := rfl
@[simp] theorem State.setY_returned (v : Byte) : (st.setY v).returned = st.returned := rfl
@[simp] theorem State.setY_frame (v : Byte) : (st.setY v).frame = st.frame := rfl

@[simp] theorem State.setS_a (v : Byte) : (st.setS v).a = st.a := rfl
@[simp] theorem State.setS_x (v : Byte) : (st.setS v).x = st.x := rfl
@[simp] theorem State.setS_y (v : Byte) : (st.setS v).y = st.y := rfl
@[simp] theorem State.setS_s (v : Byte) : (st.setS v).s = v := rfl
@[simp] theorem State.setS_p (v : Byte) : (st.setS v).p = st.p := rfl
@[simp] theorem State.setS_pc (v : Byte) : (st.setS v).pc = st.pc := rfl
@[simp] theorem State.setS_runState (v : Byte) : (st.setS v).runState = st.runState := rfl
@[simp] theorem State.setS_nmiCount (v : Byte) : (st.setS v).nmiCount = st.nmiCount := rfl
@[simp] theorem State.setS_rtiCount (v : Byte) : (st.setS v).rtiCount = st.rtiCount := rfl
@[simp] theorem State.setS_nmiPending (v : Byte) : (st.setS v).nmiPending = st.nmiPending := rfl
@[simp] theorem State.setS_penalty (v : Byte) : (st.setS v).penalty = st.penalty := rfl
@[simp] theorem State.setS_stackFault (v : Byte) : (st.setS v).stackFault = st.stackFault := rfl
@[simp] theorem State.setS_busFault (v : Byte) : (st.setS v).busFault = st.busFault := rfl
@[simp] theorem State.setS_ppu (v : Byte) : (st.setS v).ppu = st.ppu := rfl
@[simp] theorem State.setS_ram (v : Byte) : (st.setS v).ram = st.ram := rfl
@[simp] theorem State.setS_nt (v : Byte) : (st.setS v).nt = st.nt := rfl
@[simp] theorem State.setS_pal (v : Byte) : (st.setS v).pal = st.pal := rfl
@[simp] theorem State.setS_spr (v : Byte) : (st.setS v).spr = st.spr := rfl
@[simp] theorem State.setS_cart (v : Byte) : (st.setS v).cart = st.cart := rfl
@[simp] theorem State.setS_mode (v : Byte) : (st.setS v).mode = st.mode := rfl
@[simp] theorem State.setS_draws (v : Byte) : (st.setS v).draws = st.draws := rfl
@[simp] theorem State.setS_calls (v : Byte) : (st.setS v).calls = st.calls := rfl
@[simp] theorem State.setS_run (v : Byte) : (st.setS v).run = st.run := rfl
@[simp] theorem State.setS_returned (v : Byte) : (st.setS v).returned = st.returned := rfl
@[simp] theorem State.setS_frame (v : Byte) : (st.setS v).frame = st.frame := rfl

@[simp] theorem State.setP_a (v : Flags) : (st.setP v).a = st.a := rfl
@[simp] theorem State.setP_x (v : Flags) : (st.setP v).x = st.x := rfl
@[simp] theorem State.setP_y (v : Flags) : (st.setP v).y = st.y := rfl
@[simp] theorem State.setP_s (v : Flags) : (st.setP v).s = st.s := rfl
@[simp] theorem State.setP_p (v : Flags) : (st.setP v).p = v := rfl
@[simp] theorem State.setP_pc (v : Flags) : (st.setP v).pc = st.pc := rfl
@[simp] theorem State.setP_runState (v : Flags) : (st.setP v).runState = st.runState := rfl
@[simp] theorem State.setP_nmiCount (v : Flags) : (st.setP v).nmiCount = st.nmiCount := rfl
@[simp] theorem State.setP_rtiCount (v : Flags) : (st.setP v).rtiCount = st.rtiCount := rfl
@[simp] theorem State.setP_nmiPending (v : Flags) : (st.setP v).nmiPending = st.nmiPending := rfl
@[simp] theorem State.setP_penalty (v : Flags) : (st.setP v).penalty = st.penalty := rfl
@[simp] theorem State.setP_stackFault (v : Flags) : (st.setP v).stackFault = st.stackFault := rfl
@[simp] theorem State.setP_busFault (v : Flags) : (st.setP v).busFault = st.busFault := rfl
@[simp] theorem State.setP_ppu (v : Flags) : (st.setP v).ppu = st.ppu := rfl
@[simp] theorem State.setP_ram (v : Flags) : (st.setP v).ram = st.ram := rfl
@[simp] theorem State.setP_nt (v : Flags) : (st.setP v).nt = st.nt := rfl
@[simp] theorem State.setP_pal (v : Flags) : (st.setP v).pal = st.pal := rfl
@[simp] theorem State.setP_spr (v : Flags) : (st.setP v).spr = st.spr := rfl
@[simp] theorem State.setP_cart (v : Flags) : (st.setP v).cart = st.cart := rfl
@[simp] theorem State.setP_mode (v : Flags) : (st.setP v).mode = st.mode := rfl
@[simp] theorem State.setP_draws (v : Flags) : (st.setP v).draws = st.draws := rfl
@[simp] theorem State.setP_calls (v : Flags) : (st.setP v).calls = st.calls := rfl
@[simp] theorem State.setP_run (v : Flags) : (st.setP v).run = st.run := rfl
@[simp] theorem State.setP_returned (v : Flags) : (st.setP v).returned = st.returned := rfl
@[simp] theorem State.setP_frame (v : Flags) : (st.setP v).frame = st.frame := rfl

@[simp] theorem State.setPc_a (v : Addr) : (st.setPc v).a = st.a := rfl
@[simp] theorem State.setPc_x (v : Addr) : (st.setPc v).x = st.x := rfl
@[simp] theorem State.setPc_y (v : Addr) : (st.setPc v).y = st.y := rfl
@[simp] theorem State.setPc_s (v : Addr) : (st.setPc v).s = st.s := rfl
@[simp] theorem State.setPc_p (v : Addr) : (st.setPc v).p = st.p := rfl
@[simp] theorem State.setPc_pc (v : Addr) : (st.setPc v).pc = v := rfl
@[simp] theorem State.setPc_runState (v : Addr) : (st.setPc v).runState = st.runState := rfl
@[simp] theorem State.setPc_nmiCount (v : Addr) : (st.setPc v).nmiCount = st.nmiCount := rfl
@[simp] theorem State.setPc_rtiCount (v : Addr) : (st.setPc v).rtiCount = st.rtiCount := rfl
@[simp] theorem State.setPc_nmiPending (v : Addr) : (st.setPc v).nmiPending = st.nmiPending := rfl
@[simp] theorem State.setPc_penalty (v : Addr) : (st.setPc v).penalty = st.penalty := rfl
@[simp] theorem State.setPc_stackFault (v : Addr) : (st.setPc v).stackFault = st.stackFault := rfl
@[simp] theorem State.setPc_busFault (v : Addr) : (st.setPc v).busFault = st.busFault := rfl
@[simp] theorem State.setPc_ppu (v : Addr) : (st.setPc v).ppu = st.ppu := rfl
@[simp] theorem State.setPc_ram (v : Addr) : (st.setPc v).ram = st.ram := rfl
@[simp] theorem State.setPc_nt (v : Addr) : (st.setPc v).nt = st.nt := rfl
@[simp] theorem State.setPc_pal (v : Addr) : (st.setPc v).pal = st.pal := rfl
@[simp] theorem State.setPc_spr (v : Addr) : (st.setPc v).spr = st.spr := rfl
@[simp] theorem State.setPc_cart (v : Addr) : (st.setPc v).cart = st.cart := rfl
@[simp] theorem State.setPc_mode (v : Addr) : (st.setPc v).mode = st.mode := rfl
@[simp] theorem State.setPc_draws (v : Addr) : (st.setPc v).draws = st.draws := rfl
@[simp] theorem State.setPc_calls (v : Addr) : (st.setPc v).calls = st.calls := rfl
@[simp] theorem State.setPc_run (v : Addr) : (st.setPc v).run = st.run := rfl
@[simp] theorem State.setPc_returned (v : Addr) : (st.setPc v).returned = st.returned := rfl
@[simp] theorem State.setPc_frame (v : Addr) : (st.setPc v).frame = st.frame := rfl

@[simp] theorem State.setRunState_a (v : RunState) : (st.setRunState v).a = st.a := rfl
@[simp] theorem State.setRunState_x (v : RunState) : (st.setRunState v).x = st.x := rfl
@[simp] theorem State.setRunState_y (v : RunState) : (st.setRunState v).y = st.y := rfl
@[simp] theorem State.setRunState_s (v : RunState) : (st.setRunState v).s = st.s := rfl
@[simp] theorem State.setRunState_p (v : RunState) : (st.setRunState v).p = st.p := rfl
@[simp] theorem State.setRunState_pc (v : RunState) : (st.setRunState v).pc = st.pc := rfl
@[simp] theorem State.setRunState_runState (v : RunState) : (st.setRunState v).runState = v := rfl
@[simp] theorem State.setRunState_nmiCount (v : RunState) : (st.setRunState v).nmiCount = st.nmiCount := rfl
@[simp] theorem State.setRunState_rtiCount (v : RunState) : (st.setRunState v).rtiCount = st.rtiCount := rfl
@[simp] theorem State.setRunState_nmiPending (v : RunState) : (st.setRunState v).nmiPending = st.nmiPending := rfl
@[simp] theorem State.setRunState_penalty (v : RunState) : (st.setRunState v).penalty = st.penalty := rfl
@[simp] theorem State.setRunState_stackFault (v : RunState) : (st.setRunState v).stackFault = st.stackFault := rfl
@[simp] theorem State.setRunState_busFault (v : RunState) : (st.setRunState v).busFault = st.busFault := rfl
@[simp] theorem State.setRunState_ppu (v : RunState) : (st.setRunState v).ppu = st.ppu := rfl
@[simp] theorem State.setRunState_ram (v : RunState) : (st.setRunState v).ram = st.ram := rfl
@[simp] theorem State.setRunState_nt (v : RunState) : (st.setRunState v).nt = st.nt := rfl
@[simp] theorem State.setRunState_pal (v : RunState) : (st.setRunState v).pal = st.pal := rfl
@[simp] theorem State.setRunState_spr (v : RunState) : (st.setRunState v).spr = st.spr := rfl
@[simp] theorem State.setRunState_cart (v : RunState) : (st.setRunState v).cart = st.cart := rfl
@[simp] theorem State.setRunState_mode (v : RunState) : (st.setRunState v).mode = st.mode := rfl
@[simp] theorem State.setRunState_draws (v : RunState) : (st.setRunState v).draws = st.draws := rfl
@[simp] theorem State.setRunState_calls (v : RunState) : (st.setRunState v).calls = st.calls := rfl
@[simp] theorem State.setRunState_run (v : RunState) : (st.setRunState v).run = st.run := rfl
@[simp] theorem State.setRunState_returned (v : RunState) : (st.setRunState v).returned = st.returned := rfl
@[simp] theorem State.setRunState_frame (v : RunState) : (st.setRunState v).frame = st.frame := rfl

@[simp] theorem State.setPenalty_a (v : Nat) : (st.setPenalty v).a = st.a := rfl
@[simp] theorem State.setPenalty_x (v : Nat) : (st.setPenalty v).x = st.x := rfl
@[simp] theorem State.setPenalty_y (v : Nat) : (st.setPenalty v).y = st.y := rfl
@[simp] theorem State.setPenalty_s (v : Nat) : (st.setPenalty v).s = st.s := rfl
@[simp] theorem State.setPenalty_p (v : Nat) : (st.setPenalty v).p = st.p := rfl
@[simp] theorem State.setPenalty_pc (v : Nat) : (st.setPenalty v).pc = st.pc := rfl
@[simp] theorem State.setPenalty_runState (v : Nat) : (st.setPenalty v).runState = st.runState := rfl
@[simp] theorem State.setPenalty_nmiCount (v : Nat) : (st.setPenalty v).nmiCount = st.nmiCount := rfl
@[simp] theorem State.setPenalty_rtiCount (v : Nat) : (st.setPenalty v).rtiCount = st.rtiCount := rfl
@[simp] theorem State.setPenalty_nmiPending (v : Nat) : (st.setPenalty v).nmiPending = st.nmiPending := rfl
@[simp] theorem State.setPenalty_penalty (v : Nat) : (st.setPenalty v).penalty = v := rfl
@[simp] theorem State.setPenalty_stackFault (v : Nat) : (st.setPenalty v).stackFault = st.stackFault := rfl
@[simp] theorem State.setPenalty_busFault (v : Nat) : (st.setPenalty v).busFault = st.busFault := rfl
@[simp] theorem State.setPenalty_ppu (v : Nat) : (st.setPenalty v).ppu = st.ppu := rfl
@[simp] theorem State.setPenalty_ram (v : Nat) : (st.setPenalty v).ram = st.ram := rfl
@[simp] theorem State.setPenalty_nt (v : Nat) : (st.setPenalty v).nt = st.nt := rfl
@[simp] theorem State.setPenalty_pal (v : Nat) : (st.setPenalty v).pal = st.pal := rfl
@[simp] theorem State.setPenalty_spr (v : Nat) : (st.setPenalty v).spr = st.spr := rfl
@[simp] theorem State.setPenalty_cart (v : Nat) : (st.setPenalty v).cart = st.cart := rfl
@[simp] theorem State.setPenalty_mode (v : Nat) : (st.setPenalty v).mode = st.mode := rfl
@[simp] theorem State.setPenalty_draws (v : Nat) : (st.setPenalty v).draws = st.draws := rfl
@[simp] theorem State.setPenalty_calls (v : Nat) : (st.setPenalty v).calls = st.calls := rfl
@[simp] theorem State.setPenalty_run (v : Nat) : (st.setPenalty v).run = st.run := rfl
@[simp] theorem State.setPenalty_returned (v : Nat) : (st.setPenalty v).returned = st.returned := rfl
@[simp] theorem State.setPenalty_frame (v : Nat) : (st.setPenalty v).frame = st.frame := rfl

@[simp] theorem State.setStackFault_a (v : Bool) : (st.setStackFault v).a = st.a := rfl
@[simp] theorem State.setStackFault_x (v : Bool) : (st.setStackFault v).x = st.x := rfl
@[simp] theorem State.setStackFault_y (v : Bool) : (st.setStackFault v).y = st.y := rfl
@[simp] theorem State.setStackFault_s (v : Bool) : (st.setStackFault v).s = st.s := rfl
@[simp] theorem State.setStackFault_p (v : Bool) : (st.setStackFault v).p = st.p := rfl
@[simp] theorem State.setStackFault_pc (v : Bool) : (st.setStackFault v).pc = st.pc := rfl
@[simp] theorem State.setStackFault_runState (v : Bool) : (st.setStackFault v).runState = st.runState := rfl
@[simp] theorem State.setStackFault_nmiCount (v : Bool) : (st.setStackFault v).nmiCount = st.nmiCount := rfl
@[simp] theorem State.setStackFault_rtiCount (v : Bool) : (st.setStackFault v).rtiCount = st.rtiCount := rfl
@[simp] theorem State.setStackFault_nmiPending (v : Bool) : (st.setStackFault v).nmiPending = st.nmiPending := rfl
@[simp] theorem State.setStackFault_penalty (v : Bool) : (st.setStackFault v).penalty = st.penalty := rfl
@[simp] theorem State.setStackFault_stackFault (v : Bool) : (st.setStackFault v).stackFault = v := rfl
@[simp] theorem State.setStackFault_busFault (v : Bool) : (st.setStackFault v).busFault = st.busFault := rfl
@[simp] theorem State.setStackFault_ppu (v : Bool) : (st.setStackFault v).ppu = st.ppu := rfl
@[simp] theorem State.setStackFault_ram (v : Bool) : (st.setStackFault v).ram = st.ram := rfl
@[simp] theorem State.setStackFault_nt (v : Bool) : (st.setStackFault v).nt = st.nt := rfl
@[simp] theorem State.setStackFault_pal (v : Bool) : (st.setStackFault v).pal = st.pal := rfl
@[simp] theorem State.setStackFault_spr (v : Bool) : (st.setStackFault v).spr = st.spr := rfl
@[simp] theorem State.setStackFault_cart (v : Bool) : (st.setStackFault v).cart = st.cart := rfl
@[simp] theorem State.setStackFault_mode (v : Bool) : (st.setStackFault v).mode = st.mode := rfl
@[simp] theorem State.setStackFault_draws (v : Bool) : (st.setStackFault v).draws = st.draws := rfl
@[simp] theorem State.setStackFault_calls (v : Bool) : (st.setStackFault v).calls = st.calls := rfl
@[simp] theorem State.setStackFault_run (v : Bool) : (st.setStackFault v).run = st.run := rfl
@[simp] theorem State.setStackFault_returned (v : Bool) : (st.setStackFault v).returned = st.returned := rfl
@[simp] theorem State.setStackFault_frame (v : Bool) : (st.setStackFault v).frame = st.frame := rfl

@[simp] theorem State.setRam_a (v : Memory) : (st.setRam v).a = st.a := rfl
@[simp] theorem State.setRam_x (v : Memory) : (st.setRam v).x = st.x := rfl
@[simp] theorem State.setRam_y (v : Memory) : (st.setRam v).y = st.y := rfl
@[simp] theorem State.setRam_s (v : Memory) : (st.setRam v).s = st.s := rfl
@[simp] theorem State.setRam_p (v : Memory) : (st.setRam v).p = st.p := rfl
@[simp] theorem State.setRam_pc (v : Memory) : (st.setRam v).pc = st.pc := rfl
@[simp] theorem State.setRam_runState (v : Memory) : (st.setRam v).runState = st.runState := rfl
@[simp] theorem State.setRam_nmiCount (v : Memory) : (st.setRam v).nmiCount = st.nmiCount := rfl
@[simp] theorem State.setRam_rtiCount (v : Memory) : (st.setRam v).rtiCount = st.rtiCount := rfl
@[simp] theorem State.setRam_nmiPending (v : Memory) : (st.setRam v).nmiPending = st.nmiPending := rfl
@[simp] theorem State.setRam_penalty (v : Memory) : (st.setRam v).penalty = st.penalty := rfl
@[simp] theorem State.setRam_stackFault (v : Memory) : (st.setRam v).stackFault = st.stackFault := rfl
@[simp] theorem State.setRam_busFault (v : Memory) : (st.setRam v).busFault = st.busFault := rfl
@[simp] theorem State.setRam_ppu (v : Memory) : (st.setRam v).ppu = st.ppu := rfl
@[simp] theorem State.setRam_ram (v : Memory) : (st.setRam v).ram = v := rfl
@[simp] theorem State.setRam_nt (v : Memory) : (st.setRam v).nt = st.nt := rfl
@[simp] theorem State.setRam_pal (v : Memory) : (st.setRam v).pal = st.pal := rfl
@[simp] theorem State.setRam_spr (v : Memory) : (st.setRam v).spr = st.spr := rfl
@[simp] theorem State.setRam_cart (v : Memory) : (st.setRam v).cart = st.cart := rfl
@[simp] theorem State.setRam_mode (v : Memory) : (st.setRam v).mode = st.mode := rfl
@[simp] theorem State.setRam_draws (v : Memory) : (st.setRam v).draws = st.draws := rfl
@[simp] theorem State.setRam_calls (v : Memory) : (st.setRam v).calls = st.calls := rfl
@[simp] theorem State.setRam_run (v : Memory) : (st.setRam v).run = st.run := rfl
@[simp] theorem State.setRam_returned (v : Memory) : (st.setRam v).returned = st.returned := rfl
@[simp] theorem State.setRam_frame (v : Memory) : (st.setRam v).frame = st.frame := rfl

@[simp] theorem State.setPpu_a (v : Ppu) : (st.setPpu v).a = st.a := rfl
@[simp] theorem State.setPpu_x (v : Ppu) : (st.setPpu v).x = st.x := rfl
@[simp] theorem State.setPpu_y (v : Ppu) : (st.setPpu v).y = st.y := rfl
@[simp] theorem State.setPpu_s (v : Ppu) : (st.setPpu v).s = st.s := rfl
@[simp] theorem State.setPpu_p (v : Ppu) : (st.setPpu v).p = st.p := rfl
@[simp] theorem State.setPpu_pc (v : Ppu) : (st.setPpu v).pc = st.pc := rfl
@[simp] theorem State.setPpu_runState (v : Ppu) : (st.setPpu v).runState = st.runState := rfl
@[simp] theorem State.setPpu_nmiCount (v : Ppu) : (st.setPpu v).nmiCount = st.nmiCount := rfl
@[simp] theorem State.setPpu_rtiCount (v : Ppu) : (st.setPpu v).rtiCount = st.rtiCount := rfl
@[simp] theorem State.setPpu_nmiPending (v : Ppu) : (st.setPpu v).nmiPending = st.nmiPending := rfl
@[simp] theorem State.setPpu_penalty (v : Ppu) : (st.setPpu v).penalty = st.penalty := rfl
@[simp] theorem State.setPpu_stackFault (v : Ppu) : (st.setPpu v).stackFault = st.stackFault := rfl
@[simp] theorem State.setPpu_busFault (v : Ppu) : (st.setPpu v).busFault = st.busFault := rfl
@[simp] theorem State.setPpu_ppu (v : Ppu) : (st.setPpu v).ppu = v := rfl
@[simp] theorem State.setPpu_ram (v : Ppu) : (st.setPpu v).ram = st.ram := rfl
@[simp] theorem State.setPpu_nt (v : Ppu) : (st.setPpu v).nt = st.nt := rfl
@[simp] theorem State.setPpu_pal (v : Ppu) : (st.setPpu v).pal = st.pal := rfl
@[simp] theorem State.setPpu_spr (v : Ppu) : (st.setPpu v).spr = st.spr := rfl
@[simp] theorem State.setPpu_cart (v : Ppu) : (st.setPpu v).cart = st.cart := rfl
@[simp] theorem State.setPpu_mode (v : Ppu) : (st.setPpu v).mode = st.mode := rfl
@[simp] theorem State.setPpu_draws (v : Ppu) : (st.setPpu v).draws = st.draws := rfl
@[simp] theorem State.setPpu_calls (v : Ppu) : (st.setPpu v).calls = st.calls := rfl
@[simp] theorem State.setPpu_run (v : Ppu) : (st.setPpu v).run = st.run := rfl
@[simp] theorem State.setPpu_returned (v : Ppu) : (st.setPpu v).returned = st.returned := rfl
@[simp] theorem State.setPpu_frame (v : Ppu) : (st.setPpu v).frame = st.frame := rfl

@[simp] theorem State.drawn_a : st.drawn.a = st.a := rfl
@[simp] theorem State.drawn_x : st.drawn.x = st.x := rfl
@[simp] theorem State.drawn_y : st.drawn.y = st.y := rfl
@[simp] theorem State.drawn_s : st.drawn.s = st.s := rfl
@[simp] theorem State.drawn_p : st.drawn.p = st.p := rfl
@[simp] theorem State.drawn_pc : st.drawn.pc = st.pc := rfl
@[simp] theorem State.drawn_runState : st.drawn.runState = st.runState := rfl
@[simp] theorem State.drawn_nmiCount : st.drawn.nmiCount = st.nmiCount := rfl
@[simp] theorem State.drawn_rtiCount : st.drawn.rtiCount = st.rtiCount := rfl
@[simp] theorem State.drawn_nmiPending : st.drawn.nmiPending = st.nmiPending := rfl
@[simp] theorem State.drawn_penalty : st.drawn.penalty = st.penalty := rfl
@[simp] theorem State.drawn_stackFault : st.drawn.stackFault = st.stackFault := rfl
@[simp] theorem State.drawn_busFault : st.drawn.busFault = st.busFault := rfl
@[simp] theorem State.drawn_ppu : st.drawn.ppu = st.ppu := rfl
@[simp] theorem State.drawn_ram : st.drawn.ram = st.ram := rfl
@[simp] theorem State.drawn_nt : st.drawn.nt = st.nt := rfl
@[simp] theorem State.drawn_pal : st.drawn.pal = st.pal := rfl
@[simp] theorem State.drawn_spr : st.drawn.spr = st.spr := rfl
@[simp] theorem State.drawn_cart : st.drawn.cart = st.cart := rfl
@[simp] theorem State.drawn_mode : st.drawn.mode = st.mode := rfl
@[simp] theorem State.drawn_draws : st.drawn.draws = st.draws + 1 := rfl
@[simp] theorem State.drawn_calls : st.drawn.calls = st.calls := rfl
@[simp] theorem State.drawn_run : st.drawn.run = st.run := rfl
@[simp] theorem State.drawn_returned : st.drawn.returned = st.returned := rfl
@[simp] theorem State.drawn_frame : st.drawn.frame = st.frame := rfl

@[simp] theorem State.writeRam_a (a : Addr) (v : Byte) : (st.writeRam a v).a = st.a := rfl
@[simp] theorem State.writeRam_x (a : Addr) (v : Byte) : (st.writeRam a v).x = st.x := rfl
@[simp] theorem State.writeRam_y (a : Addr) (v : Byte) : (st.writeRam a v).y = st.y := rfl
@[simp] theorem State.writeRam_s (a : Addr) (v : Byte) : (st.writeRam a v).s = st.s := rfl
@[simp] theorem State.writeRam_p (a : Addr) (v : Byte) : (st.writeRam a v).p = st.p := rfl
@[simp] theorem State.writeRam_pc (a : Addr) (v : Byte) : (st.writeRam a v).pc = st.pc := rfl
@[simp] theorem State.writeRam_runState (a : Addr) (v : Byte) : (st.writeRam a v).runState = st.runState := rfl
@[simp] theorem State.writeRam_nmiCount (a : Addr) (v : Byte) : (st.writeRam a v).nmiCount = st.nmiCount := rfl
@[simp] theorem State.writeRam_rtiCount (a : Addr) (v : Byte) : (st.writeRam a v).rtiCount = st.rtiCount := rfl
@[simp] theorem State.writeRam_nmiPending (a : Addr) (v : Byte) : (st.writeRam a v).nmiPending = st.nmiPending := rfl
@[simp] theorem State.writeRam_penalty (a : Addr) (v : Byte) : (st.writeRam a v).penalty = st.penalty := rfl
@[simp] theorem State.writeRam_stackFault (a : Addr) (v : Byte) : (st.writeRam a v).stackFault = st.stackFault := rfl
@[simp] theorem State.writeRam_busFault (a : Addr) (v : Byte) : (st.writeRam a v).busFault = st.busFault := rfl
@[simp] theorem State.writeRam_ppu (a : Addr) (v : Byte) : (st.writeRam a v).ppu = st.ppu := rfl
@[simp] theorem State.writeRam_ram (a : Addr) (v : Byte) : (st.writeRam a v).ram = st.ram.write (a.toNat % Config.ramSize) v := rfl
@[simp] theorem State.writeRam_nt (a : Addr) (v : Byte) : (st.writeRam a v).nt = st.nt := rfl
@[simp] theorem State.writeRam_pal (a : Addr) (v : Byte) : (st.writeRam a v).pal = st.pal := rfl
@[simp] theorem State.writeRam_spr (a : Addr) (v : Byte) : (st.writeRam a v).spr = st.spr := rfl
@[simp] theorem State.writeRam_cart (a : Addr) (v : Byte) : (st.writeRam a v).cart = st.cart := rfl
@[simp] theorem State.writeRam_mode (a : Addr) (v : Byte) : (st.writeRam a v).mode = st.mode := rfl
@[simp] theorem State.writeRam_draws (a : Addr) (v : Byte) : (st.writeRam a v).draws = st.draws := rfl
@[simp] theorem State.writeRam_calls (a : Addr) (v : Byte) : (st.writeRam a v).calls = st.calls := rfl
@[simp] theorem State.writeRam_run (a : Addr) (v : Byte) : (st.writeRam a v).run = st.run := rfl
@[simp] theorem State.writeRam_returned (a : Addr) (v : Byte) : (st.writeRam a v).returned = st.returned := rfl
@[simp] theorem State.writeRam_frame (a : Addr) (v : Byte) : (st.writeRam a v).frame = st.frame := rfl

end Sys2Proof.Machine
end

