-- ==== Sys2Proof/Laws/Ops.lean ====
section
/-! SUPPORT. What each shared operation can do, said once: the provers cite these and need not unfold the operations. -/

namespace Sys2Proof.Machine

/-- The widths Config names are those of the word types (00_scope.md R7). -/
theorem byte_width : Byte = BitVec Config.regWidth := rfl
theorem addr_width : Addr = BitVec Config.addrWidth := rfl

/-- A counter without bound goes up by one (10_state.md R31). -/
@[simp] theorem countUp_eq (n : Nat) : Config.countUp n = n + 1 := rfl

/-- ADC and SBC add in binary whatever D holds (41_arithmetic_logic.md R163). -/
theorem addToA_eq (m : Byte) (st : State) :
    addToA m st =
      (st.setA (addCore st.a m st.p.c).r).setP
        (st.p.setCVZN (addCore st.a m st.p.c).carry (addCore st.a m st.p.c).ovf (addCore st.a m st.p.c).r) := rfl

/-- The windows of CPU address space at the bounds Config names (20_memory.md R67). -/
theorem windowOf_ram {a : Addr} (h : a.toNat < 0x2000) : windowOf a = .ram := by
  simp only [windowOf, Config.ramBase, Config.ramWindowEnd]
  rw [if_pos (by omega)]

theorem windowOf_ppu {a : Addr} (h1 : 0x2000 ≤ a.toNat) (h2 : a.toNat < 0x4000) : windowOf a = .ppu := by
  simp only [windowOf, Config.ramBase, Config.ramWindowEnd, Config.ppuRegBase, Config.ppuRegEnd]
  rw [if_neg (by omega), if_pos (by omega)]

theorem windowOf_undecoded {a : Addr} (h1 : 0x4000 ≤ a.toNat) (h2 : a.toNat < 0x4020) : windowOf a = .undecoded := by
  simp only [windowOf, Config.ramBase, Config.ramWindowEnd, Config.ppuRegBase, Config.ppuRegEnd, Config.ioWindowBase,
    Config.ioWindowEnd]
  rw [if_neg (by omega), if_neg (by omega), if_pos (by omega)]

theorem windowOf_mapperRam {a : Addr} (h1 : 0x4020 ≤ a.toNat) (h2 : a.toNat < 0x8000) : windowOf a = .mapperRam := by
  simp only [windowOf, Config.ramBase, Config.ramWindowEnd, Config.ppuRegBase, Config.ppuRegEnd, Config.ioWindowBase,
    Config.ioWindowEnd, Config.mapperRamBase, Config.romBase]
  rw [if_neg (by omega), if_neg (by omega), if_neg (by omega), if_pos (by omega)]

theorem windowOf_mapperRom {a : Addr} (h : 0x8000 ≤ a.toNat) : windowOf a = .mapperRom := by
  simp only [windowOf, Config.ramBase, Config.ramWindowEnd, Config.ppuRegBase, Config.ppuRegEnd, Config.ioWindowBase,
    Config.ioWindowEnd, Config.mapperRamBase, Config.romBase]
  rw [if_neg (by omega), if_neg (by omega), if_neg (by omega), if_neg (by omega), if_pos (by omega)]

/-- Every CPU address lies in one of the windows. -/
theorem windowOf_cases (a : Addr) :
    (a.toNat < 0x2000 ∧ windowOf a = .ram) ∨ (0x2000 ≤ a.toNat ∧ a.toNat < 0x4000 ∧ windowOf a = .ppu) ∨
      (0x4000 ≤ a.toNat ∧ a.toNat < 0x4020 ∧ windowOf a = .undecoded) ∨
      (0x4020 ≤ a.toNat ∧ a.toNat < 0x8000 ∧ windowOf a = .mapperRam) ∨ (0x8000 ≤ a.toNat ∧ windowOf a = .mapperRom) := by
  by_cases h1 : a.toNat < 0x2000
  · exact .inl ⟨h1, windowOf_ram h1⟩
  by_cases h2 : a.toNat < 0x4000
  · exact .inr (.inl ⟨by omega, h2, windowOf_ppu (by omega) h2⟩)
  by_cases h3 : a.toNat < 0x4020
  · exact .inr (.inr (.inl ⟨by omega, h3, windowOf_undecoded (by omega) h3⟩))
  by_cases h4 : a.toNat < 0x8000
  · exact .inr (.inr (.inr (.inl ⟨by omega, h4, windowOf_mapperRam (by omega) h4⟩)))
  · exact .inr (.inr (.inr (.inr ⟨by omega, windowOf_mapperRom (by omega)⟩)))

/-- `NtIndex(a)` at four separate pages (48_bus.md R306). -/
@[simp] theorem ntIndex_eq (a : Nat) : ntIndex a = (a - 0x2000) % 0x1000 := by
  simp only [ntIndex, Config.ntPage]
  omega

/-- The byte `readROM` gives at or above 0x8000 (49_mapper.md R322). -/
theorem readROM_ok {c : Cartridge} {addr : Nat} (h : 0x8000 ≤ addr) :
    c.readROM addr =
      .ok (c.rom.read (if addr < 0xC000 then addr - 0x8000 else (c.romPages - 1) * 0x4000 + (addr - 0xC000))) := by
  unfold Cartridge.readROM Config.romBase Config.fixedBase
  rw [if_neg (by omega)]
  split <;> rfl

/-- A CPU address in RAM reads the RAM byte and changes nothing. -/
theorem memRead_ram {a : Addr} {st : State} (h : a.toNat < 0x2000) : memRead a st = .ok (st.readRam a) st := by
  simp only [memRead, windowOf_ram h]

/-- A CPU address in the PPU window is a slot access. -/
theorem memRead_ppu {a : Addr} {st : State} (h1 : 0x2000 ≤ a.toNat) (h2 : a.toNat < 0x4000) :
    memRead a st = ppuRead (Slot.ofAddr a) st := by
  simp only [memRead, windowOf_ppu h1 h2]

/-- A CPU address in the ROM window reads the cartridge and changes nothing. -/
theorem memRead_rom {a : Addr} {st : State} {c : Cartridge} (h : 0x8000 ≤ a.toNat) (hc : st.cart = some c) :
    ∃ v, c.readROM a.toNat = .ok v ∧ memRead a st = .ok v st := by
  refine ⟨_, readROM_ok h, ?_⟩
  simp only [memRead, windowOf_mapperRom h, mapperRead, hc, readROM_ok h]

theorem memWrite_ram {a : Addr} {v : Byte} {st : State} (h : a.toNat < 0x2000) :
    memWrite a v st = .ok () (st.writeRam a v) := by
  simp only [memWrite, windowOf_ram h]

theorem memWrite_ppu {a : Addr} {v : Byte} {st : State} (h1 : 0x2000 ≤ a.toNat) (h2 : a.toNat < 0x4000) :
    memWrite a v st = ppuWrite (Slot.ofAddr a) v st := by
  simp only [memWrite, windowOf_ppu h1 h2]

/-- Above the PPU window every CPU write fails (the default mapper). -/
theorem memWrite_high {a : Addr} {v : Byte} {st : State} (h : 0x4000 ≤ a.toNat) :
    ∃ f, memWrite a v st = .failed f := by
  rcases windowOf_cases a with ⟨_, _⟩ | ⟨_, _, _⟩ | ⟨_, _, hw⟩ | ⟨_, _, hw⟩ | ⟨_, hw⟩
  · omega
  · omega
  · exact ⟨.undecoded, by simp only [memWrite, hw]⟩
  · cases hc : st.cart with
    | none => exact ⟨.noCartridge, by simp only [memWrite, hw, mapperWrite, hc]⟩
    | some c => exact ⟨.illegalOperation, by simp only [memWrite, hw, mapperWrite, hc, Cartridge.writeRAM]⟩
  · exact ⟨.romWrite, by simp only [memWrite, hw]⟩

/-- What a mapper read can do: it changes nothing. -/
theorem mapperRead_ok {op : Cartridge → Except Failure Byte} {st t : State} {v : Byte} (h : mapperRead op st = .ok v t) :
    t = st := by
  unfold mapperRead at h
  split at h
  · cases h
  · split at h
    · injection h with _ h2; exact h2.symm
    · cases h

/-- A video read that succeeds changes nothing. -/
theorem vidRead_ok {a : Nat} {st t : State} {v : Byte} (h : vidRead a st = .ok v t) : t = st := by
  unfold vidRead at h
  dsimp only at h
  split at h
  · split at h
    · cases h
    · split at h
      · cases h
      · injection h with _ h2; exact h2.symm
  · split at h <;> (injection h with _ h2; exact h2.symm)

/-- A video write that succeeds writes one byte of nametable or palette RAM. -/
theorem vidWrite_ok {a : Nat} {v : Byte} {st t : State} (h : vidWrite a v st = .ok () t) :
    t = { st with nt := st.nt.write (ntIndex (a % 0x4000)) v } ∨
      t = { st with pal := st.pal.write (palIndex (a % 0x4000)) v } := by
  unfold vidWrite at h
  dsimp only at h
  split at h
  · cases h
  · split at h
    · injection h with _ h2; exact .inl h2.symm
    · injection h with _ h2; exact .inr h2.symm

/-- A CPU read that succeeds writes at most PPU registers and the draw counter. -/
theorem memRead_frame {a : Addr} {st t : State} {v : Byte} (h : memRead a st = .ok v t) :
    t = { st with ppu := t.ppu, draws := t.draws } := by
  unfold memRead at h
  split at h
  · injection h with _ h2; subst h2; rfl
  · unfold ppuRead at h
    split at h
    all_goals first
      | (injection h with _ h2; subst h2; rfl)
      | (unfold readVideoData at h; split at h <;> first
          | (rename_i hv; injection h with _ h2; subst h2; rw [vidRead_ok hv]; rfl)
          | cases h)
      | (unfold readSpriteData at h; injection h with _ h2; subst h2; split <;> rfl)
  · cases h
  · rw [mapperRead_ok h]
  · rw [mapperRead_ok h]

/-- A CPU write that succeeds writes at most PPU registers and the writable memories. -/
theorem memWrite_frame {a : Addr} {v : Byte} {st t : State} (h : memWrite a v st = .ok () t) :
    t = { st with ppu := t.ppu, ram := t.ram, nt := t.nt, pal := t.pal, spr := t.spr } := by
  by_cases h1 : a.toNat < 0x2000
  · rw [memWrite_ram h1] at h
    injection h with _ h2; subst h2; rfl
  · by_cases h2 : a.toNat < 0x4000
    · rw [memWrite_ppu (by omega) h2] at h
      unfold ppuWrite at h
      split at h
      all_goals first
        | (injection h with _ h2; subst h2; rfl)
        | (unfold writeControl1 at h; split at h
           · cases h
           · injection h with _ h2; subst h2; rfl)
        | (unfold writeVideoData at h; split at h
           · rename_i hv
             injection h with _ h2; subst h2
             rcases vidWrite_ok hv with rfl | rfl <;> rfl
           · cases h
           · cases h)
    · obtain ⟨f, hf⟩ := memWrite_high (v := v) (st := st) (Nat.not_lt.mp h2)
      rw [hf] at h
      cases h

/-- What can follow one CPU read. -/
theorem readThen_next {a : Addr} {spoil : State → State} {k : Byte → State → Result} {st r : State}
    (h : readThen a spoil k st = .next r) :
    (∃ v t, memRead a st = .ok v t ∧ k v t = .next r) ∨
      (∃ f, memRead a st = .failed f ∧ r = (spoil st).busError) := by
  unfold readThen at h
  split at h
  · exact .inl ⟨_, _, ‹_›, h⟩
  · injection h with h; exact .inr ⟨_, ‹_›, h.symm⟩
  · cases h

/-- What can follow one CPU write. -/
theorem writeThen_next {a : Addr} {v : Byte} {spoil : State → State} {k : State → Result} {st r : State}
    (h : writeThen a v spoil k st = .next r) :
    (∃ t, memWrite a v st = .ok () t ∧ k t = .next r) ∨
      (∃ f, memWrite a v st = .failed f ∧ r = (spoil st).busError) := by
  unfold writeThen at h
  split at h
  · exact .inl ⟨_, ‹_›, h⟩
  · injection h with h; exact .inr ⟨_, ‹_›, h.symm⟩
  · cases h

/-- An opcode that is not penalty-eligible costs no penalty (30_encoding.md R115). -/
theorem charge_ineligible {op : Byte} (h : penaltyEligible op = false) (pl : Place) (st : State) : pl.charge op st = st := by
  simp [Place.charge, h]

/-- A place reached without a page crossing costs no penalty. -/
theorem charge_uncrossed {pl : Place} (h : pl.crossed = false) (op : Byte) (st : State) : pl.charge op st = st := by
  simp [Place.charge, h]

/-- The opcodes of the stores and of the read-modify-write instructions are not penalty-eligible (30_encoding.md R115). -/
theorem storing_opcodes_ineligible :
    ∀ op ∈ ([0x85#8, 0x95#8, 0x8D#8, 0x9D#8, 0x99#8, 0x81#8, 0x91#8, 0x86#8, 0x96#8, 0x8E#8, 0x84#8, 0x94#8, 0x8C#8, 0xE6#8,
      0xF6#8, 0xEE#8, 0xFE#8, 0xC6#8, 0xD6#8, 0xCE#8, 0xDE#8, 0x06#8, 0x16#8, 0x0E#8, 0x1E#8, 0x46#8, 0x56#8, 0x4E#8,
      0x5E#8, 0x26#8, 0x36#8, 0x2E#8, 0x3E#8, 0x66#8, 0x76#8, 0x6E#8, 0x7E#8] : List Byte), penaltyEligible op = false := by
  decide

/-- What a read instruction can do. -/
theorem readOperand_next {opc : Byte} {form : State → Place} {spoil : State → State} {effect : Byte → State → State}
    {st r : State} (h : readOperand opc form spoil effect st = .next r) :
    (∃ m t, memRead (form st).ea ((form st).charge opc st) = .ok m t ∧ r = effect m t) ∨
      (∃ f, memRead (form st).ea ((form st).charge opc st) = .failed f ∧
        r = (spoil ((form st).charge opc st)).busError) := by
  rcases readThen_next h with ⟨m, t, hm, hr⟩ | h
  · injection hr with hr; exact .inl ⟨m, t, hm, hr.symm⟩
  · exact .inr h

/-- What a store can do. -/
theorem storeOperand_next {opc : Byte} {form : State → Place} {v : Byte} {st r : State} (he : penaltyEligible opc = false)
    (h : storeOperand opc form v st = .next r) :
    memWrite (form st).ea v st = .ok () r ∨
      (∃ f, memWrite (form st).ea v st = .failed f ∧ r = st.busError) := by
  unfold storeOperand at h
  rw [charge_ineligible he] at h
  rcases writeThen_next h with ⟨t, ht, hr⟩ | h
  · injection hr with hr; exact .inl (hr ▸ ht)
  · exact .inr h

/-- What a read-modify-write instruction can do. -/
theorem modifyOperand_next {opc : Byte} {form : State → Place} {spoil : State → State}
    {compute : Byte → State → ShiftResult} {flags : ShiftResult → Flags → Flags} {st r : State}
    (he : penaltyEligible opc = false) (h : modifyOperand opc form spoil compute flags st = .next r) :
    (∃ m t u, memRead (form st).ea st = .ok m t ∧ memWrite (form st).ea (compute m t).r t = .ok () u ∧
        r = u.setP (flags (compute m t) u.p)) ∨
      (∃ m t f, memRead (form st).ea st = .ok m t ∧ memWrite (form st).ea (compute m t).r t = .failed f ∧
        r = (spoil t).busError) ∨
      (∃ f, memRead (form st).ea st = .failed f ∧ r = (spoil st).busError) := by
  unfold modifyOperand at h
  rw [charge_ineligible he] at h
  rcases readThen_next h with ⟨m, t, hm, hk⟩ | h
  · rcases writeThen_next hk with ⟨u, hu, hr⟩ | ⟨f, hf, hr⟩
    · injection hr with hr; exact .inl ⟨m, t, u, hm, hu, hr.symm⟩
    · exact .inr (.inl ⟨m, t, f, hm, hf, hr⟩)
  · exact .inr (.inr h)

/-- S designates a RAM address (log 18). -/
theorem stackAddr_toNat (st : State) : st.stackAddr.toNat = 0x0100 + st.s.toNat := by
  have h := st.s.isLt
  simp [State.stackAddr, Config.stackPage, BitVec.toNat_add]
  omega

/-- The write of a push is the bus write the spec names: `MemWrite(STACK_PAGE + S, 1, v)` (log 18). -/
theorem push_memWrite (v : Byte) (st : State) : memWrite st.stackAddr v st = .ok () (st.writeRam st.stackAddr v) := by
  apply memWrite_ram
  rw [stackAddr_toNat]
  have := st.s.isLt
  omega

/-- The read of a pop is the bus read the spec names (log 18). -/
theorem popped_memRead (st : State) : memRead st.stackAddr st = .ok st.popped st := by
  apply memRead_ram
  rw [stackAddr_toNat]
  have := st.s.isLt
  omega

/-- A page-zero pointer is read by the two bus reads the spec names (log 18). -/
theorem zpPointer_memRead (z : Byte) (st : State) :
    memRead (zext16 z) st = .ok (st.readRam (zext16 z)) st ∧
      memRead (zext16 (z + 1#8)) st = .ok (st.readRam (zext16 (z + 1#8))) st := by
  have h (b : Byte) : (zext16 b).toNat < 0x2000 := by
    have := b.isLt
    simp [zext16]
    omega
  exact ⟨memRead_ram (h z), memRead_ram (h _)⟩

/-- What an interrupt entry can do. -/
theorem enterInterrupt_next {ret vector : Addr} {brk : Bool} {finish spoil : State → State} {st r : State}
    (h : enterInterrupt ret brk vector finish spoil st = .next r) :
    (∃ lo t hi u, memRead vector (pushFrame ret brk (stackBegin st)) = .ok lo t ∧ memRead (vector + 1#16) t = .ok hi u ∧
        r = stackEnd (finish (u.setPc (addrOf hi lo)))) ∨
      (∃ lo t f, memRead vector (pushFrame ret brk (stackBegin st)) = .ok lo t ∧ memRead (vector + 1#16) t = .failed f ∧
        r = (spoil t).busError) ∨
      (∃ f, memRead vector (pushFrame ret brk (stackBegin st)) = .failed f ∧
        r = (spoil (pushFrame ret brk (stackBegin st))).busError) := by
  rcases readThen_next h with ⟨lo, t, hlo, hk⟩ | h
  · rcases readThen_next hk with ⟨hi, u, hhi, hr⟩ | ⟨f, hf, hr⟩
    · injection hr with hr; exact .inl ⟨lo, t, hi, u, hlo, hhi, hr.symm⟩
    · exact .inr (.inl ⟨lo, t, f, hlo, hf, hr⟩)
  · exact .inr (.inr h)

/-- A read of the ROM window without a cartridge fails (48_bus.md R300). -/
theorem memRead_noCart {a : Addr} {st : State} (h : 0x8000 ≤ a.toNat) (hc : st.cart = none) :
    memRead a st = .failed .noCartridge := by
  simp only [memRead, windowOf_mapperRom h, mapperRead, hc]

@[simp] theorem push_cart (v : Byte) (st : State) : (push v st).cart = st.cart := rfl

@[simp] theorem stackBegin_cart (st : State) : (stackBegin st).cart = st.cart := rfl

/-- The interrupt frame leaves the cartridge. -/
@[simp] theorem pushFrame_cart (ret : Addr) (brk : Bool) (st : State) : (pushFrame ret brk st).cart = st.cart := by
  simp only [pushFrame, pushAddr, State.setP_cart, push_cart]

/-- Without a cartridge an interrupt entry ends in a BusFault at its first vector read. -/
theorem enterInterrupt_noCart {ret vector : Addr} {brk : Bool} {finish spoil : State → State} {st : State}
    (hv : 0x8000 ≤ vector.toNat) (hc : st.cart = none) :
    enterInterrupt ret brk vector finish spoil st = .next (spoil (pushFrame ret brk (stackBegin st))).busError := by
  have hf := memRead_noCart hv ((pushFrame_cart ret brk (stackBegin st)).trans ((stackBegin_cart st).trans hc))
  simp only [enterInterrupt, readThen, hf]

end Sys2Proof.Machine
end

