-- ==== Sys2Proof/Laws/PerInstr.lean ====
section
/-! SUPPORT. Laws stated for every instruction, one lemma per constructor. -/

namespace Sys2Proof.Laws

/-- The opcode table has a row for the instruction's opcode byte, the row's mode consumes exactly the instruction's operand
bytes, and its base cost is 2 to 7 clocks (30_encoding.md R100, R116, R120). -/
def TableRow.Statement (i : Instr) : Prop :=
  ∃ r, opcodeRow i.opcode = some r ∧ i.operands.length = r.mode.operandBytes ∧ 2 ≤ r.cycles ∧ r.cycles ≤ 7

theorem TableRow.ldaImm (imm : Byte) : TableRow.Statement (.ldaImm imm) := ⟨_, rfl, rfl, by decide, by decide⟩
theorem TableRow.ldaZp (zp : Byte) : TableRow.Statement (.ldaZp zp) := ⟨_, rfl, rfl, by decide, by decide⟩
theorem TableRow.ldaZpX (zp : Byte) : TableRow.Statement (.ldaZpX zp) := ⟨_, rfl, rfl, by decide, by decide⟩
theorem TableRow.ldaAbs (addr : Addr) : TableRow.Statement (.ldaAbs addr) := ⟨_, rfl, rfl, by decide, by decide⟩
theorem TableRow.ldaAbsX (addr : Addr) : TableRow.Statement (.ldaAbsX addr) := ⟨_, rfl, rfl, by decide, by decide⟩
theorem TableRow.ldaAbsY (addr : Addr) : TableRow.Statement (.ldaAbsY addr) := ⟨_, rfl, rfl, by decide, by decide⟩
theorem TableRow.ldaIndX (zp : Byte) : TableRow.Statement (.ldaIndX zp) := ⟨_, rfl, rfl, by decide, by decide⟩
theorem TableRow.ldaIndY (zp : Byte) : TableRow.Statement (.ldaIndY zp) := ⟨_, rfl, rfl, by decide, by decide⟩
theorem TableRow.ldxImm (imm : Byte) : TableRow.Statement (.ldxImm imm) := ⟨_, rfl, rfl, by decide, by decide⟩
theorem TableRow.ldxZp (zp : Byte) : TableRow.Statement (.ldxZp zp) := ⟨_, rfl, rfl, by decide, by decide⟩
theorem TableRow.ldxZpY (zp : Byte) : TableRow.Statement (.ldxZpY zp) := ⟨_, rfl, rfl, by decide, by decide⟩
theorem TableRow.ldxAbs (addr : Addr) : TableRow.Statement (.ldxAbs addr) := ⟨_, rfl, rfl, by decide, by decide⟩
theorem TableRow.ldxAbsY (addr : Addr) : TableRow.Statement (.ldxAbsY addr) := ⟨_, rfl, rfl, by decide, by decide⟩
theorem TableRow.ldyImm (imm : Byte) : TableRow.Statement (.ldyImm imm) := ⟨_, rfl, rfl, by decide, by decide⟩
theorem TableRow.ldyZp (zp : Byte) : TableRow.Statement (.ldyZp zp) := ⟨_, rfl, rfl, by decide, by decide⟩
theorem TableRow.ldyZpX (zp : Byte) : TableRow.Statement (.ldyZpX zp) := ⟨_, rfl, rfl, by decide, by decide⟩
theorem TableRow.ldyAbs (addr : Addr) : TableRow.Statement (.ldyAbs addr) := ⟨_, rfl, rfl, by decide, by decide⟩
theorem TableRow.ldyAbsX (addr : Addr) : TableRow.Statement (.ldyAbsX addr) := ⟨_, rfl, rfl, by decide, by decide⟩
theorem TableRow.staZp (zp : Byte) : TableRow.Statement (.staZp zp) := ⟨_, rfl, rfl, by decide, by decide⟩
theorem TableRow.staZpX (zp : Byte) : TableRow.Statement (.staZpX zp) := ⟨_, rfl, rfl, by decide, by decide⟩
theorem TableRow.staAbs (addr : Addr) : TableRow.Statement (.staAbs addr) := ⟨_, rfl, rfl, by decide, by decide⟩
theorem TableRow.staAbsX (addr : Addr) : TableRow.Statement (.staAbsX addr) := ⟨_, rfl, rfl, by decide, by decide⟩
theorem TableRow.staAbsY (addr : Addr) : TableRow.Statement (.staAbsY addr) := ⟨_, rfl, rfl, by decide, by decide⟩
theorem TableRow.staIndX (zp : Byte) : TableRow.Statement (.staIndX zp) := ⟨_, rfl, rfl, by decide, by decide⟩
theorem TableRow.staIndY (zp : Byte) : TableRow.Statement (.staIndY zp) := ⟨_, rfl, rfl, by decide, by decide⟩
theorem TableRow.stxZp (zp : Byte) : TableRow.Statement (.stxZp zp) := ⟨_, rfl, rfl, by decide, by decide⟩
theorem TableRow.stxZpY (zp : Byte) : TableRow.Statement (.stxZpY zp) := ⟨_, rfl, rfl, by decide, by decide⟩
theorem TableRow.stxAbs (addr : Addr) : TableRow.Statement (.stxAbs addr) := ⟨_, rfl, rfl, by decide, by decide⟩
theorem TableRow.styZp (zp : Byte) : TableRow.Statement (.styZp zp) := ⟨_, rfl, rfl, by decide, by decide⟩
theorem TableRow.styZpX (zp : Byte) : TableRow.Statement (.styZpX zp) := ⟨_, rfl, rfl, by decide, by decide⟩
theorem TableRow.styAbs (addr : Addr) : TableRow.Statement (.styAbs addr) := ⟨_, rfl, rfl, by decide, by decide⟩
theorem TableRow.tax : TableRow.Statement .tax := ⟨_, rfl, rfl, by decide, by decide⟩
theorem TableRow.tay : TableRow.Statement .tay := ⟨_, rfl, rfl, by decide, by decide⟩
theorem TableRow.txa : TableRow.Statement .txa := ⟨_, rfl, rfl, by decide, by decide⟩
theorem TableRow.tya : TableRow.Statement .tya := ⟨_, rfl, rfl, by decide, by decide⟩
theorem TableRow.tsx : TableRow.Statement .tsx := ⟨_, rfl, rfl, by decide, by decide⟩
theorem TableRow.txs : TableRow.Statement .txs := ⟨_, rfl, rfl, by decide, by decide⟩
theorem TableRow.adcImm (imm : Byte) : TableRow.Statement (.adcImm imm) := ⟨_, rfl, rfl, by decide, by decide⟩
theorem TableRow.adcZp (zp : Byte) : TableRow.Statement (.adcZp zp) := ⟨_, rfl, rfl, by decide, by decide⟩
theorem TableRow.adcZpX (zp : Byte) : TableRow.Statement (.adcZpX zp) := ⟨_, rfl, rfl, by decide, by decide⟩
theorem TableRow.adcAbs (addr : Addr) : TableRow.Statement (.adcAbs addr) := ⟨_, rfl, rfl, by decide, by decide⟩
theorem TableRow.adcAbsX (addr : Addr) : TableRow.Statement (.adcAbsX addr) := ⟨_, rfl, rfl, by decide, by decide⟩
theorem TableRow.adcAbsY (addr : Addr) : TableRow.Statement (.adcAbsY addr) := ⟨_, rfl, rfl, by decide, by decide⟩
theorem TableRow.adcIndX (zp : Byte) : TableRow.Statement (.adcIndX zp) := ⟨_, rfl, rfl, by decide, by decide⟩
theorem TableRow.adcIndY (zp : Byte) : TableRow.Statement (.adcIndY zp) := ⟨_, rfl, rfl, by decide, by decide⟩
theorem TableRow.sbcImm (imm : Byte) : TableRow.Statement (.sbcImm imm) := ⟨_, rfl, rfl, by decide, by decide⟩
theorem TableRow.sbcZp (zp : Byte) : TableRow.Statement (.sbcZp zp) := ⟨_, rfl, rfl, by decide, by decide⟩
theorem TableRow.sbcZpX (zp : Byte) : TableRow.Statement (.sbcZpX zp) := ⟨_, rfl, rfl, by decide, by decide⟩
theorem TableRow.sbcAbs (addr : Addr) : TableRow.Statement (.sbcAbs addr) := ⟨_, rfl, rfl, by decide, by decide⟩
theorem TableRow.sbcAbsX (addr : Addr) : TableRow.Statement (.sbcAbsX addr) := ⟨_, rfl, rfl, by decide, by decide⟩
theorem TableRow.sbcAbsY (addr : Addr) : TableRow.Statement (.sbcAbsY addr) := ⟨_, rfl, rfl, by decide, by decide⟩
theorem TableRow.sbcIndX (zp : Byte) : TableRow.Statement (.sbcIndX zp) := ⟨_, rfl, rfl, by decide, by decide⟩
theorem TableRow.sbcIndY (zp : Byte) : TableRow.Statement (.sbcIndY zp) := ⟨_, rfl, rfl, by decide, by decide⟩
theorem TableRow.andImm (imm : Byte) : TableRow.Statement (.andImm imm) := ⟨_, rfl, rfl, by decide, by decide⟩
theorem TableRow.andZp (zp : Byte) : TableRow.Statement (.andZp zp) := ⟨_, rfl, rfl, by decide, by decide⟩
theorem TableRow.andZpX (zp : Byte) : TableRow.Statement (.andZpX zp) := ⟨_, rfl, rfl, by decide, by decide⟩
theorem TableRow.andAbs (addr : Addr) : TableRow.Statement (.andAbs addr) := ⟨_, rfl, rfl, by decide, by decide⟩
theorem TableRow.andAbsX (addr : Addr) : TableRow.Statement (.andAbsX addr) := ⟨_, rfl, rfl, by decide, by decide⟩
theorem TableRow.andAbsY (addr : Addr) : TableRow.Statement (.andAbsY addr) := ⟨_, rfl, rfl, by decide, by decide⟩
theorem TableRow.andIndX (zp : Byte) : TableRow.Statement (.andIndX zp) := ⟨_, rfl, rfl, by decide, by decide⟩
theorem TableRow.andIndY (zp : Byte) : TableRow.Statement (.andIndY zp) := ⟨_, rfl, rfl, by decide, by decide⟩
theorem TableRow.oraImm (imm : Byte) : TableRow.Statement (.oraImm imm) := ⟨_, rfl, rfl, by decide, by decide⟩
theorem TableRow.oraZp (zp : Byte) : TableRow.Statement (.oraZp zp) := ⟨_, rfl, rfl, by decide, by decide⟩
theorem TableRow.oraZpX (zp : Byte) : TableRow.Statement (.oraZpX zp) := ⟨_, rfl, rfl, by decide, by decide⟩
theorem TableRow.oraAbs (addr : Addr) : TableRow.Statement (.oraAbs addr) := ⟨_, rfl, rfl, by decide, by decide⟩
theorem TableRow.oraAbsX (addr : Addr) : TableRow.Statement (.oraAbsX addr) := ⟨_, rfl, rfl, by decide, by decide⟩
theorem TableRow.oraAbsY (addr : Addr) : TableRow.Statement (.oraAbsY addr) := ⟨_, rfl, rfl, by decide, by decide⟩
theorem TableRow.oraIndX (zp : Byte) : TableRow.Statement (.oraIndX zp) := ⟨_, rfl, rfl, by decide, by decide⟩
theorem TableRow.oraIndY (zp : Byte) : TableRow.Statement (.oraIndY zp) := ⟨_, rfl, rfl, by decide, by decide⟩
theorem TableRow.eorImm (imm : Byte) : TableRow.Statement (.eorImm imm) := ⟨_, rfl, rfl, by decide, by decide⟩
theorem TableRow.eorZp (zp : Byte) : TableRow.Statement (.eorZp zp) := ⟨_, rfl, rfl, by decide, by decide⟩
theorem TableRow.eorZpX (zp : Byte) : TableRow.Statement (.eorZpX zp) := ⟨_, rfl, rfl, by decide, by decide⟩
theorem TableRow.eorAbs (addr : Addr) : TableRow.Statement (.eorAbs addr) := ⟨_, rfl, rfl, by decide, by decide⟩
theorem TableRow.eorAbsX (addr : Addr) : TableRow.Statement (.eorAbsX addr) := ⟨_, rfl, rfl, by decide, by decide⟩
theorem TableRow.eorAbsY (addr : Addr) : TableRow.Statement (.eorAbsY addr) := ⟨_, rfl, rfl, by decide, by decide⟩
theorem TableRow.eorIndX (zp : Byte) : TableRow.Statement (.eorIndX zp) := ⟨_, rfl, rfl, by decide, by decide⟩
theorem TableRow.eorIndY (zp : Byte) : TableRow.Statement (.eorIndY zp) := ⟨_, rfl, rfl, by decide, by decide⟩
theorem TableRow.cmpImm (imm : Byte) : TableRow.Statement (.cmpImm imm) := ⟨_, rfl, rfl, by decide, by decide⟩
theorem TableRow.cmpZp (zp : Byte) : TableRow.Statement (.cmpZp zp) := ⟨_, rfl, rfl, by decide, by decide⟩
theorem TableRow.cmpZpX (zp : Byte) : TableRow.Statement (.cmpZpX zp) := ⟨_, rfl, rfl, by decide, by decide⟩
theorem TableRow.cmpAbs (addr : Addr) : TableRow.Statement (.cmpAbs addr) := ⟨_, rfl, rfl, by decide, by decide⟩
theorem TableRow.cmpAbsX (addr : Addr) : TableRow.Statement (.cmpAbsX addr) := ⟨_, rfl, rfl, by decide, by decide⟩
theorem TableRow.cmpAbsY (addr : Addr) : TableRow.Statement (.cmpAbsY addr) := ⟨_, rfl, rfl, by decide, by decide⟩
theorem TableRow.cmpIndX (zp : Byte) : TableRow.Statement (.cmpIndX zp) := ⟨_, rfl, rfl, by decide, by decide⟩
theorem TableRow.cmpIndY (zp : Byte) : TableRow.Statement (.cmpIndY zp) := ⟨_, rfl, rfl, by decide, by decide⟩
theorem TableRow.cpxImm (imm : Byte) : TableRow.Statement (.cpxImm imm) := ⟨_, rfl, rfl, by decide, by decide⟩
theorem TableRow.cpxZp (zp : Byte) : TableRow.Statement (.cpxZp zp) := ⟨_, rfl, rfl, by decide, by decide⟩
theorem TableRow.cpxAbs (addr : Addr) : TableRow.Statement (.cpxAbs addr) := ⟨_, rfl, rfl, by decide, by decide⟩
theorem TableRow.cpyImm (imm : Byte) : TableRow.Statement (.cpyImm imm) := ⟨_, rfl, rfl, by decide, by decide⟩
theorem TableRow.cpyZp (zp : Byte) : TableRow.Statement (.cpyZp zp) := ⟨_, rfl, rfl, by decide, by decide⟩
theorem TableRow.cpyAbs (addr : Addr) : TableRow.Statement (.cpyAbs addr) := ⟨_, rfl, rfl, by decide, by decide⟩
theorem TableRow.bitZp (zp : Byte) : TableRow.Statement (.bitZp zp) := ⟨_, rfl, rfl, by decide, by decide⟩
theorem TableRow.bitAbs (addr : Addr) : TableRow.Statement (.bitAbs addr) := ⟨_, rfl, rfl, by decide, by decide⟩
theorem TableRow.incZp (zp : Byte) : TableRow.Statement (.incZp zp) := ⟨_, rfl, rfl, by decide, by decide⟩
theorem TableRow.incZpX (zp : Byte) : TableRow.Statement (.incZpX zp) := ⟨_, rfl, rfl, by decide, by decide⟩
theorem TableRow.incAbs (addr : Addr) : TableRow.Statement (.incAbs addr) := ⟨_, rfl, rfl, by decide, by decide⟩
theorem TableRow.incAbsX (addr : Addr) : TableRow.Statement (.incAbsX addr) := ⟨_, rfl, rfl, by decide, by decide⟩
theorem TableRow.decZp (zp : Byte) : TableRow.Statement (.decZp zp) := ⟨_, rfl, rfl, by decide, by decide⟩
theorem TableRow.decZpX (zp : Byte) : TableRow.Statement (.decZpX zp) := ⟨_, rfl, rfl, by decide, by decide⟩
theorem TableRow.decAbs (addr : Addr) : TableRow.Statement (.decAbs addr) := ⟨_, rfl, rfl, by decide, by decide⟩
theorem TableRow.decAbsX (addr : Addr) : TableRow.Statement (.decAbsX addr) := ⟨_, rfl, rfl, by decide, by decide⟩
theorem TableRow.inx : TableRow.Statement .inx := ⟨_, rfl, rfl, by decide, by decide⟩
theorem TableRow.iny : TableRow.Statement .iny := ⟨_, rfl, rfl, by decide, by decide⟩
theorem TableRow.dex : TableRow.Statement .dex := ⟨_, rfl, rfl, by decide, by decide⟩
theorem TableRow.dey : TableRow.Statement .dey := ⟨_, rfl, rfl, by decide, by decide⟩
theorem TableRow.aslAcc : TableRow.Statement .aslAcc := ⟨_, rfl, rfl, by decide, by decide⟩
theorem TableRow.aslZp (zp : Byte) : TableRow.Statement (.aslZp zp) := ⟨_, rfl, rfl, by decide, by decide⟩
theorem TableRow.aslZpX (zp : Byte) : TableRow.Statement (.aslZpX zp) := ⟨_, rfl, rfl, by decide, by decide⟩
theorem TableRow.aslAbs (addr : Addr) : TableRow.Statement (.aslAbs addr) := ⟨_, rfl, rfl, by decide, by decide⟩
theorem TableRow.aslAbsX (addr : Addr) : TableRow.Statement (.aslAbsX addr) := ⟨_, rfl, rfl, by decide, by decide⟩
theorem TableRow.lsrAcc : TableRow.Statement .lsrAcc := ⟨_, rfl, rfl, by decide, by decide⟩
theorem TableRow.lsrZp (zp : Byte) : TableRow.Statement (.lsrZp zp) := ⟨_, rfl, rfl, by decide, by decide⟩
theorem TableRow.lsrZpX (zp : Byte) : TableRow.Statement (.lsrZpX zp) := ⟨_, rfl, rfl, by decide, by decide⟩
theorem TableRow.lsrAbs (addr : Addr) : TableRow.Statement (.lsrAbs addr) := ⟨_, rfl, rfl, by decide, by decide⟩
theorem TableRow.lsrAbsX (addr : Addr) : TableRow.Statement (.lsrAbsX addr) := ⟨_, rfl, rfl, by decide, by decide⟩
theorem TableRow.rolAcc : TableRow.Statement .rolAcc := ⟨_, rfl, rfl, by decide, by decide⟩
theorem TableRow.rolZp (zp : Byte) : TableRow.Statement (.rolZp zp) := ⟨_, rfl, rfl, by decide, by decide⟩
theorem TableRow.rolZpX (zp : Byte) : TableRow.Statement (.rolZpX zp) := ⟨_, rfl, rfl, by decide, by decide⟩
theorem TableRow.rolAbs (addr : Addr) : TableRow.Statement (.rolAbs addr) := ⟨_, rfl, rfl, by decide, by decide⟩
theorem TableRow.rolAbsX (addr : Addr) : TableRow.Statement (.rolAbsX addr) := ⟨_, rfl, rfl, by decide, by decide⟩
theorem TableRow.rorAcc : TableRow.Statement .rorAcc := ⟨_, rfl, rfl, by decide, by decide⟩
theorem TableRow.rorZp (zp : Byte) : TableRow.Statement (.rorZp zp) := ⟨_, rfl, rfl, by decide, by decide⟩
theorem TableRow.rorZpX (zp : Byte) : TableRow.Statement (.rorZpX zp) := ⟨_, rfl, rfl, by decide, by decide⟩
theorem TableRow.rorAbs (addr : Addr) : TableRow.Statement (.rorAbs addr) := ⟨_, rfl, rfl, by decide, by decide⟩
theorem TableRow.rorAbsX (addr : Addr) : TableRow.Statement (.rorAbsX addr) := ⟨_, rfl, rfl, by decide, by decide⟩
theorem TableRow.bcc (disp : Byte) : TableRow.Statement (.bcc disp) := ⟨_, rfl, rfl, by decide, by decide⟩
theorem TableRow.bcs (disp : Byte) : TableRow.Statement (.bcs disp) := ⟨_, rfl, rfl, by decide, by decide⟩
theorem TableRow.beq (disp : Byte) : TableRow.Statement (.beq disp) := ⟨_, rfl, rfl, by decide, by decide⟩
theorem TableRow.bmi (disp : Byte) : TableRow.Statement (.bmi disp) := ⟨_, rfl, rfl, by decide, by decide⟩
theorem TableRow.bne (disp : Byte) : TableRow.Statement (.bne disp) := ⟨_, rfl, rfl, by decide, by decide⟩
theorem TableRow.bpl (disp : Byte) : TableRow.Statement (.bpl disp) := ⟨_, rfl, rfl, by decide, by decide⟩
theorem TableRow.bvc (disp : Byte) : TableRow.Statement (.bvc disp) := ⟨_, rfl, rfl, by decide, by decide⟩
theorem TableRow.bvs (disp : Byte) : TableRow.Statement (.bvs disp) := ⟨_, rfl, rfl, by decide, by decide⟩
theorem TableRow.jmpAbs (addr : Addr) : TableRow.Statement (.jmpAbs addr) := ⟨_, rfl, rfl, by decide, by decide⟩
theorem TableRow.jmpInd (ptr : Addr) : TableRow.Statement (.jmpInd ptr) := ⟨_, rfl, rfl, by decide, by decide⟩
theorem TableRow.jsr (addr : Addr) : TableRow.Statement (.jsr addr) := ⟨_, rfl, rfl, by decide, by decide⟩
theorem TableRow.rts : TableRow.Statement .rts := ⟨_, rfl, rfl, by decide, by decide⟩
theorem TableRow.pha : TableRow.Statement .pha := ⟨_, rfl, rfl, by decide, by decide⟩
theorem TableRow.php : TableRow.Statement .php := ⟨_, rfl, rfl, by decide, by decide⟩
theorem TableRow.pla : TableRow.Statement .pla := ⟨_, rfl, rfl, by decide, by decide⟩
theorem TableRow.plp : TableRow.Statement .plp := ⟨_, rfl, rfl, by decide, by decide⟩
theorem TableRow.clc : TableRow.Statement .clc := ⟨_, rfl, rfl, by decide, by decide⟩
theorem TableRow.sec : TableRow.Statement .sec := ⟨_, rfl, rfl, by decide, by decide⟩
theorem TableRow.cli : TableRow.Statement .cli := ⟨_, rfl, rfl, by decide, by decide⟩
theorem TableRow.sei : TableRow.Statement .sei := ⟨_, rfl, rfl, by decide, by decide⟩
theorem TableRow.cld : TableRow.Statement .cld := ⟨_, rfl, rfl, by decide, by decide⟩
theorem TableRow.sed : TableRow.Statement .sed := ⟨_, rfl, rfl, by decide, by decide⟩
theorem TableRow.clv : TableRow.Statement .clv := ⟨_, rfl, rfl, by decide, by decide⟩
theorem TableRow.brk : TableRow.Statement .brk := ⟨_, rfl, rfl, by decide, by decide⟩
theorem TableRow.rti : TableRow.Statement .rti := ⟨_, rfl, rfl, by decide, by decide⟩
theorem TableRow.nop : TableRow.Statement .nop := ⟨_, rfl, rfl, by decide, by decide⟩

end Sys2Proof.Laws
end

