-- ==== Sys2Proof/Tests/Slice0.lean ====
section
/-! SUPPORT. The model's own tests, each about one step; the expected results are the vectors of spec/95_test_vectors.md (the id
stands in each comment) or the spec's examples. -/

namespace Sys2Proof.Tests

open Sys2Proof Sys2Proof.Machine

/-- All flags clear (95_test_vectors.md, Conventions). -/
def noFlags : Flags := { c := false, z := false, i := false, d := false, b := false, v := false, n := false }

/-- Bytes flashed at `pc` in the ROM window, S = 0xFD, A = X = Y = 0 (Conventions); `more` is flashed too, by ROM key. -/
def boot (pc : Addr) (bytes : List Byte) (more : Memory) : State :=
  { State.reset with
    p := noFlags, pc := pc
    cart := some { Cartridge.blank with
      rom := Memory.writeAll more (if pc.toNat < 0xC000 then pc.toNat - 0x8000 else pc.toNat - 0xC000 + 0x4000) bytes } }

/-- Bytes flashed at 0x8000. -/
def cpu (bytes : List Byte) : State := boot 0x8000#16 bytes []

/-- The vectors of the tables of system instructions and interrupts: IRQ 0x9000, NMI 0x8500, reset 0x8000. -/
def vectors : Memory :=
  Memory.writeAll [] 0x7FFA [0x00#8, 0x85#8, 0x00#8, 0x80#8, 0x00#8, 0x90#8]

/-- RAM with some bytes. -/
def mem (cells : List (Nat × Byte)) : Memory := cells.foldl (fun m c => m.write c.1 c.2) []

/-- The state after one step; where the step stops, the construction state, which is Halted. -/
def after (s : State) : State :=
  match step s with
  | .next t => t
  | .fault _ => State.construct
  | .refused _ => State.construct

/-- The next state of a result, if it is one. -/
def nextOf : Result → Option State
  | .next t => some t
  | .fault _ => none
  | .refused _ => none

-- Well-formedness: no instruction is ill formed (R122); a memory and a cartridge can be, once per check.
theorem test_instr_wellFormed (i : Instr) : i.wellFormed = true := rfl
theorem test_memory_unsorted : ¬ Memory.wf [(2, 0x01#8), (1, 0x01#8)] := by decide
theorem test_memory_repeated : ¬ Memory.wf [(1, 0x01#8), (1, 0x02#8)] := by decide
theorem test_memory_blank_cell : ¬ Memory.wf [(1, 0x00#8)] := by decide
theorem test_memory_out_of_range : ¬ Memory.wfIn 32 [(32, 0x01#8)] := by decide
theorem test_cartridge_no_page : ¬ Cartridge.wf { Cartridge.blank with romPages := 0 } := by decide
theorem test_cartridge_rom_out_of_range : ¬ Cartridge.wf { Cartridge.blank with rom := [(0x8000, 0x01#8)] } := by decide
theorem test_cartridge_vrom_out_of_range : ¬ Cartridge.wf { Cartridge.blank with vrom := [(0x2000, 0x01#8)] } := by decide
theorem test_cartridge_blank : Cartridge.wf Cartridge.blank := by decide

-- Words written out from the spec's encodings (R116, R118, R120): one per family and per mode.
theorem test_decode_lda_imm : decode [0xA9#8, 0x10#8] = .ok (.ldaImm 0x10#8, []) := by rfl
theorem test_decode_lda_zp : decode [0xA5#8, 0x10#8] = .ok (.ldaZp 0x10#8, []) := by rfl
theorem test_decode_lda_zpx : decode [0xB5#8, 0x10#8] = .ok (.ldaZpX 0x10#8, []) := by rfl
theorem test_decode_ldx_zpy : decode [0xB6#8, 0x10#8] = .ok (.ldxZpY 0x10#8, []) := by rfl
theorem test_decode_lda_abs : decode [0xAD#8, 0x34#8, 0x12#8] = .ok (.ldaAbs 0x1234#16, []) := by rfl
theorem test_decode_lda_absx : decode [0xBD#8, 0x34#8, 0x12#8] = .ok (.ldaAbsX 0x1234#16, []) := by rfl
theorem test_decode_lda_absy : decode [0xB9#8, 0x34#8, 0x12#8] = .ok (.ldaAbsY 0x1234#16, []) := by rfl
theorem test_decode_jmp_ind : decode [0x6C#8, 0x34#8, 0x12#8] = .ok (.jmpInd 0x1234#16, []) := by rfl
theorem test_decode_lda_indx : decode [0xA1#8, 0x10#8] = .ok (.ldaIndX 0x10#8, []) := by rfl
theorem test_decode_lda_indy : decode [0xB1#8, 0x10#8] = .ok (.ldaIndY 0x10#8, []) := by rfl
theorem test_decode_asl_acc : decode [0x0A#8, 0xEA#8] = .ok (.aslAcc, [0xEA#8]) := by rfl
theorem test_decode_bne : decode [0xD0#8, 0xFB#8] = .ok (.bne 0xFB#8, []) := by rfl
theorem test_decode_adc_imm : decode [0x69#8, 0x10#8] = .ok (.adcImm 0x10#8, []) := by rfl
theorem test_decode_jsr : decode [0x20#8, 0x34#8, 0x92#8] = .ok (.jsr 0x9234#16, []) := by rfl
theorem test_decode_php : decode [0x08#8] = .ok (.php, []) := by rfl
theorem test_decode_brk : decode [0x00#8, 0xFF#8] = .ok (.brk, [0xFF#8]) := by rfl
theorem test_decode_undefined : decode [0x02#8, 0x00#8] = .error (.undefinedOpcode 0x02#8) := by rfl
theorem test_decode_truncated : decode [0xAD#8, 0x34#8] = .error (.truncated 0xAD#8) := by rfl
theorem test_decode_empty : decode [] = .error .noBytes := by rfl
theorem test_decodeTableWord : decodeTableWord 24 0x1234AD = some (.ldaAbs 0x1234#16) := by rfl
theorem test_decodeTableWord_short : decodeTableWord 8 0xFFFFAD = some (.ldaAbs 0x0000#16) := by rfl


-- Loads, stores, transfers.
-- L1
theorem test_lda_imm :
    let t := after (cpu [0xA9#8, 0x80#8])
    t.a = 0x80#8 ∧ t.p.n = true ∧ t.p.z = false ∧ t.pc = 0x8002#16 ∧ t.returned = .clocks 2 := by decide
-- L2
theorem test_ldx_imm :
    let t := after { cpu [0xA2#8, 0x00#8] with x := 0x05#8 }
    t.x = 0x00#8 ∧ t.p.z = true ∧ t.p.n = false ∧ t.pc = 0x8002#16 := by decide
-- L3
theorem test_ldy_imm :
    let t := after (cpu [0xA0#8, 0x7F#8])
    t.y = 0x7F#8 ∧ t.p.z = false ∧ t.p.n = false ∧ t.returned = .clocks 2 := by decide
-- L4
theorem test_lda_zpx_wraps :
    let t := after { cpu [0xB5#8, 0xF0#8] with x := 0x20#8, ram := mem [(0x10, 0xAB#8), (0x110, 0xCD#8)] }
    t.a = 0xAB#8 ∧ t.p.n = true ∧ t.pc = 0x8002#16 ∧ t.returned = .clocks 4 := by decide
-- L5
theorem test_ldx_zpy_wraps :
    let t := after { cpu [0xB6#8, 0xFF#8] with y := 0x01#8, ram := mem [(0x0, 0x33#8)] }
    t.x = 0x33#8 ∧ t.returned = .clocks 4 := by decide
-- L6
theorem test_lda_absx_same_page :
    let t := after { cpu [0xBD#8, 0x00#8, 0x02#8] with x := 0xFF#8, ram := mem [(0x2FF, 0x11#8)] }
    t.a = 0x11#8 ∧ t.pc = 0x8003#16 ∧ t.returned = .clocks 4 := by decide
-- L7
theorem test_lda_absx_crosses :
    let t := after { cpu [0xBD#8, 0x01#8, 0x02#8] with x := 0xFF#8, ram := mem [(0x300, 0x22#8)] }
    t.a = 0x22#8 ∧ t.returned = .clocks 5 := by decide
-- L8
theorem test_lda_absy_crosses :
    let t := after { cpu [0xB9#8, 0xFF#8, 0x02#8] with y := 0x01#8, ram := mem [(0x300, 0x23#8)] }
    t.a = 0x23#8 ∧ t.returned = .clocks 5 := by decide
-- L9
theorem test_lda_absx_wraps :
    let t := after { cpu [0xBD#8, 0xFF#8, 0xFF#8] with x := 0x02#8, ram := mem [(0x1, 0x44#8)] }
    t.a = 0x44#8 ∧ t.returned = .clocks 5 := by decide
-- L10
theorem test_lda_indx :
    let t := after { cpu [0xA1#8, 0x20#8] with x := 0x04#8, ram := mem [(0x24, 0x00#8), (0x25, 0x03#8), (0x300, 0x66#8)] }
    t.a = 0x66#8 ∧ t.pc = 0x8002#16 ∧ t.returned = .clocks 6 := by decide
-- L11
theorem test_lda_indx_pointer_wraps :
    let t := after { cpu [0xA1#8, 0xFE#8] with x := 0x01#8, ram := mem [(0xFF, 0x34#8), (0x0, 0x02#8), (0x100, 0x07#8), (0x234, 0x77#8)] }
    t.a = 0x77#8 ∧ t.returned = .clocks 6 := by decide
-- L13
theorem test_lda_indy :
    let t := after { cpu [0xB1#8, 0x40#8] with y := 0x10#8, ram := mem [(0x40, 0x00#8), (0x41, 0x03#8), (0x310, 0x99#8)] }
    t.a = 0x99#8 ∧ t.p.n = true ∧ t.returned = .clocks 5 := by decide
-- L14
theorem test_lda_indy_crosses :
    let t := after { cpu [0xB1#8, 0x40#8] with y := 0x10#8, ram := mem [(0x40, 0xF8#8), (0x41, 0x03#8), (0x408, 0x9A#8)] }
    t.a = 0x9A#8 ∧ t.returned = .clocks 6 := by decide
-- L15
theorem test_lda_indy_pointer_wraps :
    let t := after { cpu [0xB1#8, 0xFF#8] with y := 0x00#8, ram := mem [(0xFF, 0x50#8), (0x0, 0x03#8), (0x100, 0x07#8), (0x350, 0x3C#8)] }
    t.a = 0x3C#8 ∧ t.returned = .clocks 5 := by decide
-- L16
theorem test_sta_abs :
    let t := after { cpu [0x8D#8, 0x00#8, 0x02#8] with a := 0x42#8 }
    t.ram.read 0x200 = 0x42#8 ∧ t.p.toByte = 0x20#8 ∧ t.pc = 0x8003#16 ∧ t.returned = .clocks 4 := by decide
-- L17
theorem test_sta_absx_no_penalty :
    let t := after { cpu [0x9D#8, 0x01#8, 0x02#8] with a := 0x5A#8, x := 0xFF#8 }
    t.ram.read 0x300 = 0x5A#8 ∧ t.returned = .clocks 5 := by decide
-- L18
theorem test_sta_indy :
    let t := after { cpu [0x91#8, 0x40#8] with a := 0xE1#8, y := 0x10#8, ram := mem [(0x40, 0xF8#8), (0x41, 0x03#8)] }
    t.ram.read 0x408 = 0xE1#8 ∧ t.returned = .clocks 6 := by decide
-- L19
theorem test_sta_absx_wraps :
    let t := after { cpu [0x9D#8, 0xFF#8, 0xFF#8] with a := 0x99#8, x := 0x01#8 }
    t.ram.read 0x0 = 0x99#8 ∧ t.returned = .clocks 5 := by decide
-- L20
theorem test_stx_zp :
    let t := after { cpu [0x86#8, 0x10#8] with x := 0x07#8 }
    t.ram.read 0x10 = 0x07#8 ∧ t.returned = .clocks 3 := by decide
-- L21
theorem test_lda_mirror :
    let t := after { cpu [0xAD#8, 0x10#8, 0x08#8] with ram := mem [(0x10, 0x5C#8)] }
    t.a = 0x5C#8 ∧ t.returned = .clocks 4 := by decide
-- L22
theorem test_lda_last_mirror :
    let t := after { cpu [0xAD#8, 0xFF#8, 0x1F#8] with ram := mem [(0x7FF, 0x5D#8)] }
    t.a = 0x5D#8 ∧ t.returned = .clocks 4 := by decide
-- L23
theorem test_sty_vaddr :
    let t := after { cpu [0x8C#8, 0x06#8, 0x20#8] with y := 0xFF#8 }
    t.ppu.vaddr = 0xFF00#16 ∧ t.ppu.toggle = true ∧ t.p.toByte = 0x20#8 ∧ t.returned = .clocks 4 := by decide
-- L24
theorem test_tax :
    let t := after { cpu [0xAA#8] with x := 0x09#8 }
    t.x = 0x00#8 ∧ t.p.z = true ∧ t.p.n = false ∧ t.pc = 0x8001#16 ∧ t.returned = .clocks 2 := by decide
-- L25
theorem test_tay :
    let t := after { cpu [0xA8#8] with a := 0x90#8 }
    t.y = 0x90#8 ∧ t.p.n = true ∧ t.p.z = false := by decide
-- L26
theorem test_txa :
    let t := after { cpu [0x8A#8] with x := 0x01#8 }
    t.a = 0x01#8 ∧ t.p.z = false ∧ t.p.n = false := by decide
-- L27
theorem test_tya :
    let t := after { cpu [0x98#8] with y := 0xFF#8 }
    t.a = 0xFF#8 ∧ t.p.n = true := by decide
-- L28
theorem test_tsx :
    let t := after (cpu [0xBA#8])
    t.x = 0xFD#8 ∧ t.p.n = true ∧ t.p.z = false := by decide
-- L29
theorem test_txs :
    let t := after { cpu [0x9A#8] with x := 0xFF#8, s := 0x10#8 }
    t.s = 0xFF#8 ∧ t.p.toByte = 0x20#8 := by decide
-- L30
theorem test_lda_undecoded :
    let t := after (cpu [0xAD#8, 0x00#8, 0x40#8])
    t.runState = .error := by decide
-- L31
theorem test_lda_mapper_ram :
    let t := after (cpu [0xAD#8, 0x00#8, 0x60#8])
    t.runState = .error := by decide
-- L33
theorem test_sta_rom :
    let t := after { cpu [0x8D#8, 0x00#8, 0xC0#8] with a := 0x01#8 }
    t.runState = .error ∧ t.cart = (cpu [0x8D#8, 0x00#8, 0xC0#8]).cart := by decide
-- L34, U21
theorem test_sta_control1_8x16 :
    let t := after { cpu [0x8D#8, 0x00#8, 0x20#8] with a := 0x20#8, ppu := { State.reset.ppu with ctrl1 := 0x81#8 } }
    t.runState = .error ∧ t.ppu.ctrl1 = 0x81#8 := by decide

-- Arithmetic and logic.
-- A1
theorem test_adc_carry_in :
    let t := after { cpu [0x69#8, 0x00#8] with a := 0xFF#8, p := { noFlags with c := true } }
    t.a = 0x00#8 ∧ t.p.c = true ∧ t.p.z = true ∧ t.p.v = false ∧ t.p.n = false := by decide
-- A2
theorem test_adc_overflow :
    let t := after { cpu [0x69#8, 0x01#8] with a := 0x7F#8 }
    t.a = 0x80#8 ∧ t.p.c = false ∧ t.p.v = true ∧ t.p.n = true ∧ t.p.z = false := by decide
-- A5, the source's S2
theorem test_adc_source_example :
    let t := after { cpu [0x69#8, 0x10#8] with a := 0x50#8 }
    t.a = 0x60#8 ∧ t.p.c = false ∧ t.p.z = false ∧ t.p.n = false ∧ t.p.v = false ∧ t.returned = .clocks 2 := by decide
-- A6
theorem test_adc_ignores_decimal :
    let t := after { cpu [0x69#8, 0x05#8] with a := 0x09#8, p := { noFlags with d := true } }
    t.a = 0x0E#8 ∧ t.p.d = true ∧ t.p.c = false := by decide
-- A8
theorem test_sbc_borrow_in :
    let t := after { cpu [0xE9#8, 0x10#8] with a := 0x50#8 }
    t.a = 0x3F#8 ∧ t.p.c = true ∧ t.p.v = false := by decide
-- A10
theorem test_sbc_overflow :
    let t := after { cpu [0xE9#8, 0x01#8] with a := 0x80#8, p := { noFlags with c := true } }
    t.a = 0x7F#8 ∧ t.p.c = true ∧ t.p.v = true ∧ t.p.n = false := by decide
-- A14
theorem test_and_imm :
    let t := after { cpu [0x29#8, 0x3C#8] with a := 0xF0#8, p := { noFlags with c := true, v := true } }
    t.a = 0x30#8 ∧ t.p.z = false ∧ t.p.n = false ∧ t.p.c = true ∧ t.p.v = true := by decide
-- A15
theorem test_ora_imm :
    let t := after { cpu [0x09#8, 0x80#8] with a := 0x0F#8 }
    t.a = 0x8F#8 ∧ t.p.n = true ∧ t.p.z = false := by decide
-- A16
theorem test_eor_imm :
    let t := after { cpu [0x49#8, 0xFF#8] with a := 0xAA#8 }
    t.a = 0x55#8 ∧ t.p.n = false ∧ t.p.z = false := by decide
-- A17
theorem test_cmp_equal :
    let t := after { cpu [0xC9#8, 0x33#8] with a := 0x33#8, p := { noFlags with v := true } }
    t.a = 0x33#8 ∧ t.p.c = true ∧ t.p.z = true ∧ t.p.n = false ∧ t.p.v = true := by decide
-- A19
theorem test_cmp_signed :
    let t := after { cpu [0xC9#8, 0x01#8] with a := 0x80#8 }
    t.p.c = true ∧ t.p.z = false ∧ t.p.n = false := by decide
-- A22
theorem test_cpx_imm :
    let t := after { cpu [0xE0#8, 0x10#8] with x := 0x10#8 }
    t.p.c = true ∧ t.p.z = true ∧ t.p.n = false := by decide
-- A23
theorem test_cpy_imm :
    let t := after { cpu [0xC0#8, 0x08#8] with y := 0x05#8 }
    t.p.c = false ∧ t.p.z = false ∧ t.p.n = true := by decide
-- A24
theorem test_bit_zp :
    let t := after { cpu [0x24#8, 0x10#8] with a := 0x01#8, ram := mem [(0x10, 0xC0#8)] }
    t.a = 0x01#8 ∧ t.p.z = true ∧ t.p.n = true ∧ t.p.v = true ∧ t.p.c = false ∧ t.returned = .clocks 3 := by decide
-- A26
theorem test_inc_zp :
    let t := after { cpu [0xE6#8, 0x20#8] with p := { noFlags with c := true }, ram := mem [(0x20, 0xFF#8)] }
    t.ram.read 0x20 = 0x00#8 ∧ t.p.z = true ∧ t.p.n = false ∧ t.p.c = true ∧ t.returned = .clocks 5 := by decide
-- A27
theorem test_inc_absx_no_penalty :
    let t := after { cpu [0xFE#8, 0x01#8, 0x02#8] with x := 0xFF#8, ram := mem [(0x300, 0x7F#8)] }
    t.ram.read 0x300 = 0x80#8 ∧ t.p.n = true ∧ t.p.v = false ∧ t.returned = .clocks 7 := by decide
-- A28
theorem test_dec_abs :
    let t := after { cpu [0xCE#8, 0x00#8, 0x03#8] with ram := mem [(0x300, 0x01#8)] }
    t.ram.read 0x300 = 0x00#8 ∧ t.p.z = true ∧ t.p.n = false ∧ t.returned = .clocks 6 := by decide
-- A30
theorem test_inx :
    let t := after { cpu [0xE8#8] with x := 0xFF#8 }
    t.x = 0x00#8 ∧ t.p.z = true ∧ t.p.n = false ∧ t.p.c = false := by decide
-- A31
theorem test_iny :
    let t := after (cpu [0xC8#8])
    t.y = 0x01#8 ∧ t.p.z = false ∧ t.p.n = false := by decide
-- A33
theorem test_dex :
    let t := after (cpu [0xCA#8])
    t.x = 0xFF#8 ∧ t.p.n = true ∧ t.p.z = false := by decide
-- A34
theorem test_dey :
    let t := after { cpu [0x88#8] with y := 0x80#8 }
    t.y = 0x7F#8 ∧ t.p.n = false ∧ t.p.z = false := by decide

-- Shifts and rotates.
-- H1
theorem test_asl_acc :
    let t := after { cpu [0x0A#8] with a := 0x81#8 }
    t.a = 0x02#8 ∧ t.p.c = true ∧ t.p.z = false ∧ t.p.n = false ∧ t.returned = .clocks 2 := by decide
-- H4
theorem test_asl_zpx :
    let t := after { cpu [0x16#8, 0x10#8] with x := 0x05#8, ram := mem [(0x15, 0xC0#8)] }
    t.ram.read 0x15 = 0x80#8 ∧ t.p.c = true ∧ t.p.n = true ∧ t.p.z = false ∧ t.returned = .clocks 6 := by decide
-- H5
theorem test_lsr_zp :
    let t := after { cpu [0x46#8, 0x10#8] with ram := mem [(0x10, 0x02#8)] }
    t.ram.read 0x10 = 0x01#8 ∧ t.p.c = false ∧ t.p.z = false ∧ t.p.n = false ∧ t.returned = .clocks 5 := by decide
-- H6
theorem test_lsr_acc :
    let t := after { cpu [0x4A#8] with a := 0x01#8 }
    t.a = 0x00#8 ∧ t.p.c = true ∧ t.p.z = true ∧ t.p.n = false := by decide
-- H8
theorem test_rol_acc :
    let t := after { cpu [0x2A#8] with a := 0x40#8, p := { noFlags with c := true } }
    t.a = 0x81#8 ∧ t.p.c = false ∧ t.p.n = true ∧ t.p.z = false := by decide
-- H11
theorem test_ror_acc :
    let t := after { cpu [0x6A#8] with a := 0x03#8, p := { noFlags with c := true } }
    t.a = 0x81#8 ∧ t.p.c = true ∧ t.p.n = true ∧ t.p.z = false := by decide
-- H14
theorem test_ror_abs :
    let t := after { cpu [0x6E#8, 0x00#8, 0x03#8] with p := { noFlags with c := true }, ram := mem [(0x300, 0x02#8)] }
    t.ram.read 0x300 = 0x81#8 ∧ t.p.c = false ∧ t.p.n = true ∧ t.p.z = false ∧ t.returned = .clocks 6 := by decide

-- Control flow.
-- C1
theorem test_bcc_taken :
    let t := after (cpu [0x90#8, 0x02#8])
    t.pc = 0x8004#16 ∧ t.returned = .clocks 3 := by decide
-- C2
theorem test_bcc_not_taken :
    let t := after { cpu [0x90#8, 0x02#8] with p := { noFlags with c := true } }
    t.pc = 0x8002#16 ∧ t.returned = .clocks 2 := by decide
-- C5
theorem test_beq_crosses :
    let t := after { boot 0x80F0#16 [0xF0#8, 0x7E#8] [] with p := { noFlags with z := true } }
    t.pc = 0x8170#16 ∧ t.returned = .clocks 4 := by decide
-- C6
theorem test_bcs :
    let t := after { cpu [0xB0#8, 0xFE#8] with p := { noFlags with c := true } }
    t.pc = 0x8000#16 ∧ t.returned = .clocks 3 := by decide
-- C7
theorem test_bmi :
    let t := after { boot 0x80F0#16 [0x30#8, 0x20#8] [] with p := { noFlags with n := true } }
    t.pc = 0x8112#16 ∧ t.returned = .clocks 4 := by decide
-- C8
theorem test_bne :
    let t := after (boot 0x8005#16 [0xD0#8, 0xFB#8] [])
    t.pc = 0x8002#16 ∧ t.returned = .clocks 3 := by decide
-- R196
theorem test_bpl_not_taken :
    let t := after { cpu [0x10#8, 0xFB#8] with p := { noFlags with n := true } }
    t.pc = 0x8002#16 ∧ t.returned = .clocks 2 := by decide
-- C9
theorem test_bvc :
    let t := after (cpu [0x50#8, 0x7F#8])
    t.pc = 0x8081#16 ∧ t.returned = .clocks 3 := by decide
-- C10
theorem test_bvs :
    let t := after { cpu [0x70#8, 0x80#8] with p := { noFlags with v := true } }
    t.pc = 0x7F82#16 ∧ t.returned = .clocks 4 := by decide
-- C11
theorem test_branch_at_top :
    let t := after (boot 0xFFFE#16 [0x90#8, 0x02#8] [])
    t.pc = 0x0002#16 ∧ t.returned = .clocks 3 := by decide
-- C13
theorem test_jmp_abs :
    let t := after (cpu [0x4C#8, 0x00#8, 0x90#8])
    t.pc = 0x9000#16 ∧ t.s = 0xFD#8 ∧ t.returned = .clocks 3 := by decide
-- C15
theorem test_jmp_ind_page_bug :
    let t := after { cpu [0x6C#8, 0xFF#8, 0x02#8] with ram := mem [(0x2FF, 0x34#8), (0x200, 0x12#8), (0x300, 0x99#8)] }
    t.pc = 0x1234#16 ∧ t.returned = .clocks 5 := by decide
-- C16
theorem test_jsr :
    let t := after (cpu [0x20#8, 0x34#8, 0x92#8])
    t.ram.read 0x1FD = 0x80#8 ∧ t.ram.read 0x1FC = 0x02#8 ∧ t.s = 0xFB#8 ∧ t.pc = 0x9234#16 ∧ t.returned = .clocks 6 := by decide
-- C20
theorem test_jsr_wraps :
    let t := after { cpu [0x20#8, 0x00#8, 0x90#8] with s := 0x00#8 }
    t.ram.read 0x100 = 0x80#8 ∧ t.ram.read 0x1FF = 0x02#8 ∧ t.s = 0xFE#8 ∧ t.pc = 0x9000#16 ∧ t.runState = .error ∧ t.returned = .clocks 6 := by decide
-- C18
theorem test_rts :
    let t := after { boot 0x9234#16 [0x60#8] [] with s := 0xFB#8, ram := mem [(0x1FC, 0x02#8), (0x1FD, 0x80#8)] }
    t.pc = 0x8003#16 ∧ t.s = 0xFD#8 ∧ t.returned = .clocks 6 := by decide
-- C22
theorem test_rts_wraps :
    let t := after { cpu [0x60#8] with s := 0xFE#8, ram := mem [(0x1FF, 0x33#8), (0x100, 0x44#8)] }
    t.pc = 0x4434#16 ∧ t.s = 0x00#8 ∧ t.runState = .error := by decide

-- Stack and flag instructions.
-- D1
theorem test_pha :
    let t := after { cpu [0x48#8] with a := 0x42#8 }
    t.ram.read 0x1FD = 0x42#8 ∧ t.s = 0xFC#8 ∧ t.p.toByte = 0x20#8 ∧ t.returned = .clocks 3 := by decide
-- D7
theorem test_pha_wraps :
    let t := after { cpu [0x48#8] with a := 0x77#8, s := 0x00#8 }
    t.ram.read 0x100 = 0x77#8 ∧ t.s = 0xFF#8 ∧ t.pc = 0x8001#16 ∧ t.runState = .error ∧ t.returned = .clocks 3 := by decide
-- D2
theorem test_php :
    let t := after { cpu [0x08#8] with s := 0xFF#8, p := { noFlags with n := true, c := true } }
    t.ram.read 0x1FF = 0xB1#8 ∧ t.s = 0xFE#8 ∧ t.p.toByte = 0xA1#8 := by decide
-- D5
theorem test_pla :
    let t := after { cpu [0x68#8] with a := 0x05#8, s := 0xFC#8 }
    t.a = 0x00#8 ∧ t.p.z = true ∧ t.p.n = false ∧ t.s = 0xFD#8 ∧ t.returned = .clocks 4 := by decide
-- D9
theorem test_pla_wraps :
    let t := after { cpu [0x68#8] with s := 0xFF#8, ram := mem [(0x100, 0x80#8)] }
    t.a = 0x80#8 ∧ t.p.n = true ∧ t.s = 0x00#8 ∧ t.runState = .error := by decide
-- D6
theorem test_plp :
    let t := after { cpu [0x28#8] with s := 0xFE#8, ram := mem [(0x1FF, 0xFF#8)] }
    t.p.toByte = 0xEF#8 ∧ t.s = 0xFF#8 ∧ t.returned = .clocks 4 := by decide
-- D10
theorem test_clc :
    let t := after { cpu [0x18#8] with p := { noFlags with c := true, v := true } }
    t.p.toByte = 0x60#8 ∧ t.returned = .clocks 2 := by decide
-- D10
theorem test_sec :
    let t := after (cpu [0x38#8])
    t.p.toByte = 0x21#8 := by decide
-- D11
theorem test_cli :
    let t := after { cpu [0x58#8] with p := { noFlags with i := true, c := true } }
    t.p.toByte = 0x21#8 := by decide
-- D11
theorem test_sei :
    let t := after (cpu [0x78#8])
    t.p.toByte = 0x24#8 := by decide
-- D12
theorem test_cld :
    let t := after { cpu [0xD8#8] with p := { noFlags with d := true, c := true } }
    t.p.toByte = 0x21#8 := by decide
-- D12
theorem test_sed :
    let t := after (cpu [0xF8#8])
    t.p.toByte = 0x28#8 := by decide
-- D13
theorem test_clv :
    let t := after { cpu [0xB8#8] with p := { noFlags with v := true, c := true } }
    t.p.toByte = 0x21#8 := by decide

-- System instructions, undefined opcodes, the refused fetch.
-- F1
theorem test_brk :
    let t := after { boot 0x8010#16 [0x00#8] vectors with p := { noFlags with i := true } }
    t.ram.read 0x1FD = 0x80#8 ∧ t.ram.read 0x1FC = 0x12#8 ∧ t.ram.read 0x1FB = 0x34#8 ∧ t.s = 0xFA#8 ∧ t.p.i = true ∧ t.pc = 0x9000#16 ∧ t.returned = .clocks 7 := by decide
-- F8
theorem test_brk_wraps :
    let t := after { boot 0x8000#16 [0x00#8] vectors with s := 0x01#8 }
    t.ram.read 0x101 = 0x80#8 ∧ t.ram.read 0x100 = 0x02#8 ∧ t.ram.read 0x1FF = 0x30#8 ∧ t.s = 0xFE#8 ∧ t.p.i = true ∧ t.pc = 0x9000#16 ∧ t.runState = .error ∧ t.returned = .clocks 7 := by decide
-- F4
theorem test_rti :
    let t := after { cpu [0x40#8] with s := 0xFA#8, ram := mem [(0x1FB, 0xFF#8), (0x1FC, 0x00#8), (0x1FD, 0xC0#8)] }
    t.p.toByte = 0xEF#8 ∧ t.pc = 0xC000#16 ∧ t.s = 0xFD#8 ∧ t.rtiCount = 1 ∧ t.returned = .clocks 6 := by decide
-- F9
theorem test_rti_wraps :
    let t := after { cpu [0x40#8] with s := 0xFE#8, ram := mem [(0x1FF, 0x01#8), (0x100, 0x22#8), (0x101, 0x11#8)] }
    t.p.toByte = 0x21#8 ∧ t.pc = 0x1122#16 ∧ t.s = 0x01#8 ∧ t.rtiCount = 1 ∧ t.runState = .error := by decide
-- F7
theorem test_nop :
    let t := after (cpu [0xEA#8])
    t.pc = 0x8001#16 ∧ t.p.toByte = 0x20#8 ∧ t.returned = .clocks 2 := by decide
-- F5
theorem test_undefined_opcode :
    let t := after { cpu [0x02#8] with run := some { budget := 0, spent := 0 } }
    t.pc = 0x8001#16 ∧ t.runState = .error ∧ t.returned = .clocks 0 := by decide
-- R77
theorem test_fetch_refused : step { cpu [] with pc := 0x2000#16 } = .refused .fetchRegion := by rfl

-- Interrupts and the run loop.
-- I1
theorem test_irq :
    let t := after { boot 0x8123#16 [] vectors with p := { noFlags with c := true }, calls := [.irq] }
    t.ram.read 0x1FD = 0x81#8 ∧ t.ram.read 0x1FC = 0x23#8 ∧ t.ram.read 0x1FB = 0x21#8 ∧ t.s = 0xFA#8 ∧ t.p.toByte = 0x25#8 ∧ t.pc = 0x9000#16 ∧ t.returned = .clocks 7 := by decide
-- I2
theorem test_irq_masked :
    let t := after { boot 0x8000#16 [] vectors with p := { noFlags with i := true }, calls := [.irq] }
    t.s = 0xFD#8 ∧ t.pc = 0x8000#16 ∧ t.returned = .clocks 0 := by decide
-- I4
theorem test_nmi_in_error :
    let t := after { boot 0x8000#16 [] vectors with calls := [.nmi], runState := .error }
    t.s = 0xFD#8 ∧ t.nmiCount = 0 ∧ t.returned = .clocks 0 := by decide
-- I5
theorem test_nmi :
    let t := after { boot 0x8003#16 [] vectors with p := { noFlags with n := true, i := true }, calls := [.nmi] }
    t.ram.read 0x1FD = 0x80#8 ∧ t.ram.read 0x1FC = 0x03#8 ∧ t.ram.read 0x1FB = 0xA4#8 ∧ t.s = 0xFA#8 ∧ t.pc = 0x8500#16 ∧ t.nmiCount = 1 ∧ t.returned = .clocks 7 := by decide
-- I7
theorem test_nmi_wraps :
    let t := after { boot 0x8003#16 [] vectors with s := 0x02#8, calls := [.nmi] }
    t.ram.read 0x102 = 0x80#8 ∧ t.ram.read 0x101 = 0x03#8 ∧ t.ram.read 0x100 = 0x20#8 ∧ t.s = 0xFF#8 ∧ t.pc = 0x8500#16 ∧ t.runState = .error ∧ t.returned = .clocks 7 := by decide
-- I8
theorem test_run_enters_pending_nmi :
    let t := after { boot 0x8000#16 [] vectors with calls := [.run 0], nmiPending := true }
    t.s = 0xFA#8 ∧ t.pc = 0x8500#16 ∧ t.nmiCount = 1 ∧ t.nmiPending = false ∧ t.run = some { budget := 0, spent := 7 } := by decide
-- Q6
theorem test_run_budget_too_small :
    let t := after { boot 0x80F0#16 [0xF0#8, 0x7E#8] [] with p := { noFlags with z := true }, run := some { budget := 1, spent := 0 } }
    t.pc = 0x80F0#16 ∧ t.returned = .clocks 0 := by decide
-- Q5
theorem test_run_over_budget_by_two :
    let t := after { boot 0x80F0#16 [0xF0#8, 0x7E#8] [] with p := { noFlags with z := true }, run := some { budget := 2, spent := 0 } }
    t.pc = 0x8170#16 ∧ t.run = some { budget := 2, spent := 4 } := by decide

-- The PPU registers.
-- U1
theorem test_vaddr_high :
    let t := after { cpu [] with calls := [.writeMem 0x2006#16 0x20#8] }
    t.ppu.vaddr = 0x2000#16 ∧ t.ppu.toggle = true := by decide
-- U5
theorem test_vaddr_low :
    let t := after { cpu [] with ppu := { State.reset.ppu with vaddr := 0x3F34#16, toggle := true }, calls := [.writeMem 0x2006#16 0x10#8] }
    t.ppu.vaddr = 0x3F10#16 ∧ t.ppu.toggle = false := by decide
-- U4
theorem test_scroll_first_is_vertical :
    let t := after { cpu [] with calls := [.writeMem 0x2005#16 0x08#8] }
    t.ppu.scrollV = 0x08#8 ∧ t.ppu.scrollH = 0x00#8 ∧ t.ppu.toggle = true := by decide
-- U3
theorem test_video_write_by_32 :
    let t := after { cpu [] with ppu := { State.reset.ppu with vaddr := 0x2020#16, ctrl1 := 0x04#8 }, calls := [.writeMem 0x2007#16 0x02#8] }
    t.nt.read 0x20 = 0x02#8 ∧ t.ppu.vaddr = 0x2040#16 := by decide
-- U6
theorem test_palette_alias :
    let t := after { cpu [] with ppu := { State.reset.ppu with vaddr := 0x3F10#16 }, calls := [.writeMem 0x2007#16 0x2A#8] }
    t.pal.read 0 = 0x2A#8 ∧ t.ppu.vaddr = 0x3F11#16 := by decide
-- U8
theorem test_nametable_mirror :
    let t := after { cpu [] with ppu := { State.reset.ppu with vaddr := 0x3005#16 }, calls := [.writeMem 0x2007#16 0x77#8] }
    t.nt.read 0x005 = 0x77#8 := by decide
-- U10
theorem test_vaddr_decoded_mod_0x4000 :
    let t := after { cpu [] with ppu := { State.reset.ppu with vaddr := 0x6000#16 }, calls := [.writeMem 0x2007#16 0x55#8] }
    t.nt.read 0x000 = 0x55#8 ∧ t.ppu.vaddr = 0x6001#16 := by decide
-- U11
theorem test_vaddr_wraps :
    let t := after { cpu [] with ppu := { State.reset.ppu with vaddr := 0xFFFF#16 }, calls := [.writeMem 0x2007#16 0x3D#8] }
    t.pal.read 0x1F = 0x3D#8 ∧ t.ppu.vaddr = 0x0000#16 := by decide
-- U12
theorem test_vrom_write_fails :
    let t := after { cpu [] with ppu := { State.reset.ppu with vaddr := 0x1000#16 }, calls := [.writeMem 0x2007#16 0x01#8] }
    t.returned = .failed .vramWrite ∧ t.ppu.vaddr = 0x1000#16 := by decide
-- U13
theorem test_vrom_read :
    let t := after { cpu [] with ppu := { State.reset.ppu with vaddr := 0x1000#16 }, calls := [.readMem 0x2007#16], cart := some { Cartridge.blank with vrom := [(0x1000, 0x81#8)] } }
    t.returned = .byte 0x81#8 ∧ t.ppu.vaddr = 0x1001#16 := by decide
-- U15
theorem test_sprite_data_wraps :
    let t := after { cpu [] with ppu := { State.reset.ppu with sprAddr := 0xFF#8 }, calls := [.writeMem 0x2004#16 0x99#8] }
    t.spr.read 0xFF = 0x99#8 ∧ t.ppu.sprAddr = 0x00#8 := by decide
-- U17
theorem test_register_mirror :
    let t := after { cpu [] with calls := [.writeMem 0x3FF9#16 0x18#8] }
    t.ppu.ctrl2 = 0x18#8 := by decide
-- U19
theorem test_status_write :
    let t := after { cpu [] with ppu := { State.reset.ppu with vblank := true }, calls := [.writeMem 0x2002#16 0xFF#8] }
    t.ppu = { State.reset.ppu with vblank := true } := by decide
-- U18: bits 7 and 5 are stored bits, the rest of the byte is free, and only vblank is cleared.
theorem test_status_read (free : Byte) :
    let u : Ppu := { State.reset.ppu with vblank := true, spr0Hit := true, sprOverflow := true }
    (statusByte u free).getLsbD 7 = true ∧ (statusByte u free).getLsbD 5 = true := by
  revert free; decide
theorem test_status_read_clears :
    let t := after { cpu [] with calls := [.readMem 0x2002#16], ppu := { State.reset.ppu with vblank := true, spr0Hit := true, sprOverflow := true } }
    t.ppu = { State.reset.ppu with spr0Hit := true, sprOverflow := true } := by decide

-- Frame step and composition.
/-- The video memory of V3. -/
def tileState : State :=
  { cpu [] with
    cart := some { Cartridge.blank with vrom := [(0x0010, 0xC0#8), (0x0018, 0xA0#8)] }
    nt := [(0x045, 0x01#8), (0x3C1, 0x20#8)]
    pal := [(0x09, 0x11#8), (0x0A, 0x22#8), (0x0B, 0x33#8), (0x15, 0x05#8), (0x16, 0x06#8), (0x17, 0x07#8)] }

-- V1
theorem test_update_hidden :
    let t := after { cpu [] with calls := [.update], pal := [(0, 0x0F#8)] }
    t.frame = [.setBackground 0x0F#6, .draw] ∧ t.ppu.vblank = true ∧ t.nmiPending = false := by decide
-- V2
theorem test_update_requests_nmi :
    let t := after { cpu [] with calls := [.update], ppu := { State.reset.ppu with ctrl1 := 0x80#8 } }
    t.ppu.vblank = true ∧ t.nmiPending = true ∧ t.nmiCount = 0 := by decide
-- V3
theorem test_background_symbol :
    backgroundSymbol tileState 2 5 =
      .setSymbol .background 40 16 ([.color 0x33#6, .color 0x11#6, .color 0x22#6] ++ List.replicate 61 .transparent) := by
  decide
-- V4
theorem test_background_scrolled :
    (match backgroundSymbol { tileState with ppu := { State.reset.ppu with scrollH := 0x03#8 } } 2 5 with
      | .setSymbol _ x y _ => decide (x = 37 ∧ y = 16) | _ => false) = true := by decide
-- V5, the row test
theorem test_short_rows : ((List.range 30).filter (rowShown .short)).length = 28 := by decide
-- V6
theorem test_sprite_flipped :
    spriteSymbol { tileState with spr := [(0, 0x10#8), (1, 0x01#8), (2, 0x41#8), (3, 0x20#8)] } 0 =
      .setSymbol .front 0x20 0x11
        (List.replicate 5 .transparent ++ [.color 0x06#6, .color 0x05#6, .color 0x07#6] ++ List.replicate 56 .transparent) := by
  decide
-- V7
theorem test_sprite_behind :
    spriteSymbol { tileState with spr := [(0, 0x10#8), (1, 0x01#8), (2, 0xA1#8), (3, 0x20#8)] } 0 =
      .setSymbol .behind 0x20 0x11
        (List.replicate 56 .transparent ++ [.color 0x07#6, .color 0x05#6, .color 0x06#6] ++ List.replicate 5 .transparent) := by
  decide
-- V8
theorem test_update_8x16 :
    step { cpu [] with calls := [.update], ppu := { State.reset.ppu with ctrl1 := 0x20#8 } } = .fault .sprites8x16 := by rfl

-- Bus, mapper, reset.
-- B4
theorem test_host_read_undecoded :
    let t := after { cpu [] with calls := [.readMem 0x401F#16] }
    t.returned = .failed .undecoded := by decide
-- B5
theorem test_host_read_mapper_ram :
    let t := after { cpu [] with calls := [.readMem 0x7FFF#16] }
    t.returned = .failed .illegalOperation := by decide
-- B6, S6
theorem test_host_read_rom :
    let t := after { cpu [0x11#8] with calls := [.readMem 0x8000#16] }
    t.returned = .byte 0x11#8 := by decide
-- B7, S6
theorem test_host_read_fixed :
    let t := after { boot 0xC000#16 [0x22#8] [] with calls := [.readROM 0xC000#16] }
    t.returned = .byte 0x22#8 := by decide
-- S6
theorem test_readROM_below :
    let t := after { cpu [] with calls := [.readROM 0x7FFF#16] }
    t.returned = .failed .illegalArgument := by decide
-- S7
theorem test_flash_split :
    let t := after { cpu [] with calls := [.flash 0xBFFE [0x01#8, 0x02#8, 0x03#8, 0x04#8]] }
    (t.cart.map (fun c => [0xBFFE, 0xBFFF, 0xC000, 0xC001].map (fun a => (c.readROM a).toOption))) = some [some 0x01#8, some 0x02#8, some 0x03#8, some 0x04#8] := by decide
-- M1
theorem test_flash_below :
    let t := after { cpu [] with calls := [.flash 0x7FFF [0x01#8]] }
    t.returned = .failed .illegalArgument := by decide
-- M2
theorem test_flash_too_long :
    let t := after { cpu [] with calls := [.flash 0xFFFF [0x01#8, 0x02#8]] }
    t.returned = .failed .sizeOverflow ∧ t.cart = some Cartridge.blank := by decide
-- M7
theorem test_flash_one_page :
    let t := after { cpu [] with calls := [.flash 0x8010 [0x5A#8]], cart := some { Cartridge.blank with romPages := 1 } }
    (t.cart.map (fun c => (c.readROM 0x8010).toOption)) = some (some 0x5A#8) ∧ (t.cart.map (fun c => (c.readROM 0xC010).toOption)) = some (some 0x5A#8) := by decide
-- Z2
theorem test_reset_from_error :
    let t := after { boot 0x8000#16 [] vectors with calls := [.reset], runState := .error, nmiCount := 3, rtiCount := 3 }
    t.pc = 0x8000#16 ∧ t.p.i = true ∧ t.runState = .running ∧ t.nmiCount = 3 ∧ t.rtiCount = 3 := by decide
-- Z3
theorem test_halted_irq :
    nextOf (hostCall .irq State.construct) = some { State.construct with returned := .clocks 0 } := by decide
-- Z4
theorem test_reset_no_cartridge :
    (nextOf (hostCall .reset State.construct)).map (·.runState) = some .error := by decide
-- Z1, R403: construction, the injection of a blank default cartridge, reset().
theorem test_boot : resetCpu { State.construct with cart := some Cartridge.blank } = .next State.reset := by rfl
-- An instruction placed at PC is the one the next step runs.
theorem test_withFetchWord :
    step (State.reset.withFetchWord 24 0x0201FE) =
      onNext (settle none 7) (exec (.incAbsX 0x0201#16) (beginInstr 3 (State.reset.withFetchWord 24 0x0201FE))) := by rfl

-- WITNESSES: for each statement with hypotheses, a concrete state and operands that meet them.

/-- X = Y = 0xFF and the pointer 0x02FF at 0x10: every form reaches a RAM byte, the indexed ones across a page. -/
def inRam : State := { State.reset with x := 0xFF#8, y := 0xFF#8, ram := mem [(0x10, 0xFF#8), (0x11, 0x02#8)] }

/-- X = Y = 0 and the pointer 0x4000, which no block decodes, at 0x10. -/
def undecodedAt10 : State := { State.reset with ram := mem [(0x11, 0x40#8)] }

/-- X = Y = 0, the pointer 0x2007 at 0x10, and a cartridge with no VROM page: a read of slot 7 is fatal. -/
def noVrom : State :=
  { State.reset with
    ram := mem [(0x10, 0x07#8), (0x11, 0x20#8)], cart := some { Cartridge.blank with vromPages := 0 } }

/-- No cartridge. -/
def noCart : State := { State.reset with cart := none }

/-- An answer that can be compared. -/
theorem okOf {ε α : Type} [DecidableEq α] {e : Except ε α} {v : α}
    (h : (match e with | .ok x => decide (x = v) | .error _ => false) = true) : e = .ok v := by
  cases e with
  | ok x => rw [of_decide_eq_true h]
  | error f => cases h

-- DecodeOfEncodeIsTheInstruction, EncodeOfDecodeIsTheBytes, UndefinedOpcodesAreThe105Bytes.
theorem witness_decodeOfEncode : Instr.wellFormed (.ldaAbs 0xFFFF#16) = true := by decide
theorem witness_encodeOfDecode : decode [0xAD#8, 0xFF#8, 0x00#8, 0xEA#8] = .ok (.ldaAbs 0x00FF#16, [0xEA#8]) := by rfl
theorem witness_undefined_first : opcodeRow 0x02#8 = none := by decide
theorem witness_undefined_last : opcodeRow 0xFF#8 = none := by decide
-- ZeroPageFormsWrapInPageZero, last clause.
theorem witness_zpx_corner : ({ State.reset with x := 0x02#8 } : State).x = 0x02#8 := by decide

-- Reads (O9, O12 to O16): the operand byte is readable, in each memory form.
theorem witness_reads_zp : ∃ m t, memRead (atZp 0xFF#8 inRam).ea ((atZp 0xFF#8 inRam).charge 0xA5#8 inRam) = .ok m t := ⟨_, _, rfl⟩
theorem witness_reads_zpx : ∃ m t, memRead (atZpX 0x01#8 inRam).ea ((atZpX 0x01#8 inRam).charge 0xB5#8 inRam) = .ok m t := ⟨_, _, rfl⟩
theorem witness_reads_zpy : ∃ m t, memRead (atZpY 0x01#8 inRam).ea ((atZpY 0x01#8 inRam).charge 0xB6#8 inRam) = .ok m t := ⟨_, _, rfl⟩
theorem witness_reads_abs : ∃ m t, memRead (atAbs 0xFFFF#16 inRam).ea ((atAbs 0xFFFF#16 inRam).charge 0xAD#8 inRam) = .ok m t :=
  ⟨_, _, rfl⟩
theorem witness_reads_absx : ∃ m t, memRead (atAbsX 0x0201#16 inRam).ea ((atAbsX 0x0201#16 inRam).charge 0xBD#8 inRam) = .ok m t :=
  ⟨_, _, rfl⟩
theorem witness_reads_absy : ∃ m t, memRead (atAbsY 0xFFFF#16 inRam).ea ((atAbsY 0xFFFF#16 inRam).charge 0xB9#8 inRam) = .ok m t :=
  ⟨_, _, rfl⟩
theorem witness_reads_indx : ∃ m t, memRead (atIndX 0x11#8 inRam).ea ((atIndX 0x11#8 inRam).charge 0xA1#8 inRam) = .ok m t :=
  ⟨_, _, rfl⟩
theorem witness_reads_indy : ∃ m t, memRead (atIndY 0x10#8 inRam).ea ((atIndY 0x10#8 inRam).charge 0xB1#8 inRam) = .ok m t :=
  ⟨_, _, rfl⟩
-- The bus refuses the read, in each form that can leave page zero.
theorem witness_refused_abs : memRead (atAbs 0x4000#16 undecodedAt10).ea ((atAbs 0x4000#16 undecodedAt10).charge 0xAD#8 undecodedAt10)
    = .failed .undecoded := by rfl
theorem witness_refused_absx : memRead (atAbsX 0x3F01#16 inRam).ea ((atAbsX 0x3F01#16 inRam).charge 0xBD#8 inRam)
    = .failed .undecoded := by rfl
theorem witness_refused_absy : memRead (atAbsY 0x401F#16 undecodedAt10).ea
    ((atAbsY 0x401F#16 undecodedAt10).charge 0xB9#8 undecodedAt10) = .failed .undecoded := by rfl
theorem witness_refused_indx : memRead (atIndX 0x10#8 undecodedAt10).ea ((atIndX 0x10#8 undecodedAt10).charge 0xA1#8 undecodedAt10)
    = .failed .undecoded := by rfl
theorem witness_refused_indy : memRead (atIndY 0x10#8 undecodedAt10).ea ((atIndY 0x10#8 undecodedAt10).charge 0xB1#8 undecodedAt10)
    = .failed .undecoded := by rfl
-- The read is fatal.
theorem witness_fatal_abs : memRead (atAbs 0x2007#16 noVrom).ea ((atAbs 0x2007#16 noVrom).charge 0xAD#8 noVrom) = .fatal := by rfl
theorem witness_fatal_absx : memRead (atAbsX 0x3FFF#16 noVrom).ea ((atAbsX 0x3FFF#16 noVrom).charge 0xBD#8 noVrom) = .fatal := by rfl
theorem witness_fatal_absy : memRead (atAbsY 0x2007#16 noVrom).ea ((atAbsY 0x2007#16 noVrom).charge 0xB9#8 noVrom) = .fatal := by rfl
theorem witness_fatal_indx : memRead (atIndX 0x10#8 noVrom).ea ((atIndX 0x10#8 noVrom).charge 0xA1#8 noVrom) = .fatal := by rfl
theorem witness_fatal_indy : memRead (atIndY 0x10#8 noVrom).ea ((atIndY 0x10#8 noVrom).charge 0xB1#8 noVrom) = .fatal := by rfl

-- StoresWriteOneByteAndNothingElse: writable and refused, in each form; StoresKeepEveryOtherByte.
theorem witness_stores_zp : ∃ t, memWrite (atZp 0xFF#8 inRam).ea inRam.a inRam = .ok () t := ⟨_, rfl⟩
theorem witness_stores_zpx : ∃ t, memWrite (atZpX 0x01#8 inRam).ea inRam.a inRam = .ok () t := ⟨_, rfl⟩
theorem witness_stores_zpy : ∃ t, memWrite (atZpY 0x01#8 inRam).ea inRam.x inRam = .ok () t := ⟨_, rfl⟩
theorem witness_stores_abs : ∃ t, memWrite (atAbs 0x3FFF#16 { inRam with ppu := { inRam.ppu with vaddr := 0x3FFF#16 } }).ea
    inRam.a { inRam with ppu := { inRam.ppu with vaddr := 0x3FFF#16 } } = .ok () t := ⟨_, rfl⟩
theorem witness_stores_absx : ∃ t, memWrite (atAbsX 0x0201#16 inRam).ea inRam.a inRam = .ok () t := ⟨_, rfl⟩
theorem witness_stores_absy : ∃ t, memWrite (atAbsY 0x0201#16 inRam).ea inRam.a inRam = .ok () t := ⟨_, rfl⟩
theorem witness_stores_indx : ∃ t, memWrite (atIndX 0x11#8 inRam).ea inRam.a inRam = .ok () t := ⟨_, rfl⟩
theorem witness_stores_indy : ∃ t, memWrite (atIndY 0x10#8 inRam).ea inRam.a inRam = .ok () t := ⟨_, rfl⟩
theorem witness_stores_refused_abs : memWrite (atAbs 0x8000#16 inRam).ea inRam.a inRam = .failed .romWrite := by rfl
theorem witness_stores_refused_absx : memWrite (atAbsX 0x3F01#16 inRam).ea inRam.a inRam = .failed .undecoded := by rfl
theorem witness_stores_refused_absy : memWrite (atAbsY 0x7F00#16 inRam).ea inRam.a inRam = .failed .illegalOperation := by rfl
theorem witness_stores_refused_indx :
    memWrite (atIndX 0x10#8 undecodedAt10).ea undecodedAt10.a undecodedAt10 = .failed .undecoded := by rfl
theorem witness_stores_refused_indy :
    memWrite (atIndY 0x10#8 undecodedAt10).ea undecodedAt10.a undecodedAt10 = .failed .undecoded := by rfl
theorem witness_stores_frame : Claims.storedAt (.staIndY 0x10#8) inRam = some 0x03FE#16 ∧
    (nextOf (exec (.staIndY 0x10#8) inRam)).isSome = true := by decide

-- Read-modify-write (O17, O19): readable and writable; writable refused; read refused; fatal; O51.
theorem witness_modifies_zp : ∃ m u, memRead (atZp 0xFF#8 inRam).ea inRam = .ok m inRam ∧
    memWrite (atZp 0xFF#8 inRam).ea (m + 1#8) inRam = .ok () u := ⟨_, _, rfl, rfl⟩
theorem witness_modifies_zpx : ∃ m u, memRead (atZpX 0x01#8 inRam).ea inRam = .ok m inRam ∧
    memWrite (atZpX 0x01#8 inRam).ea (m + 1#8) inRam = .ok () u := ⟨_, _, rfl, rfl⟩
theorem witness_modifies_abs : ∃ m u, memRead (atAbs 0x1FFF#16 inRam).ea inRam = .ok m inRam ∧
    memWrite (atAbs 0x1FFF#16 inRam).ea (m + 1#8) inRam = .ok () u := ⟨_, _, rfl, rfl⟩
theorem witness_modifies_absx : ∃ m u, memRead (atAbsX 0x0201#16 inRam).ea inRam = .ok m inRam ∧
    memWrite (atAbsX 0x0201#16 inRam).ea (m + 1#8) inRam = .ok () u := ⟨_, _, rfl, rfl⟩
theorem witness_modifies_rom : memRead (atAbs 0x8000#16 inRam).ea inRam = .ok 0x00#8 inRam ∧
    memWrite (atAbs 0x8000#16 inRam).ea 0x01#8 inRam = .failed .romWrite := ⟨rfl, rfl⟩
theorem witness_modifies_rom_x : memRead (atAbsX 0xFF00#16 inRam).ea inRam = .ok 0x00#8 inRam ∧
    memWrite (atAbsX 0xFF00#16 inRam).ea 0x01#8 inRam = .failed .romWrite := ⟨rfl, rfl⟩
theorem witness_modifies_refused : memRead (atAbs 0x4020#16 inRam).ea inRam = .failed .illegalOperation := by rfl
theorem witness_modifies_fatal : memRead (atAbs 0x2007#16 noVrom).ea noVrom = .fatal := by rfl
theorem witness_modifies_frame : Claims.storedAt (.incAbsX 0x0201#16) inRam = some 0x0300#16 ∧
    (nextOf (exec (.incAbsX 0x0201#16) inRam)).isSome = true := by decide
theorem witness_modifies_frame_refused : Claims.storedAt (.incAbs 0x4000#16) inRam = some 0x4000#16 ∧
    (nextOf (exec (.incAbs 0x4000#16) inRam)).isSome = true := by decide

-- BranchesTakenAndNotTaken: each condition holds in one of these, fails in the other.
theorem witness_branch_set : ({ noFlags with c := true, z := true, v := true, n := true } : Flags).c = true := by decide
theorem witness_branch_clear : noFlags.c = false ∧ noFlags.z = false ∧ noFlags.n = false ∧ noFlags.v = false := by decide
-- The targets at the ends of the displacement's range.
theorem witness_branch_targets : Claims.target 0x0010#16 0x80#8 = 0xFF90#16 ∧ Claims.target 0xFFFF#16 0x7F#8 = 0x007E#16 := by
  decide
-- JumpsSetPcAndThePointerStaysInItsPage, clause by clause.
theorem witness_jmp_ind : memRead 0x02FF#16 inRam = .ok 0x00#8 inRam ∧
    memRead (addrOf (hiByte 0x02FF#16) (loByte 0x02FF#16 + 1#8)) inRam = .ok 0x00#8 inRam := ⟨rfl, rfl⟩
theorem witness_jmp_ind_first_refused : memRead 0x4000#16 inRam = .failed .undecoded := by rfl
theorem witness_jmp_ind_second_refused : memRead 0x2006#16 noCart = .ok (Config.freeByte 0) noCart.drawn ∧
    memRead (addrOf (hiByte 0x2006#16) (loByte 0x2006#16 + 1#8)) noCart.drawn = .failed .noCartridge := ⟨rfl, rfl⟩
theorem witness_jmp_ind_first_fatal : memRead 0x2007#16 noVrom = .fatal := by rfl
theorem witness_jmp_ind_second_fatal : memRead 0x2006#16 noVrom = .ok (Config.freeByte 0) noVrom.drawn ∧
    memRead (addrOf (hiByte 0x2006#16) (loByte 0x2006#16 + 1#8)) noVrom.drawn = .fatal := ⟨rfl, rfl⟩

-- PushesPopInReverseOrder, at its longest.
theorem witness_pushes : State.reset.ram.wf ∧ (List.replicate 256 0x01#8).length ≤ 256 :=
  ⟨by decide, Nat.le_of_eq List.length_replicate⟩
-- PushesKeepEveryOtherByte.
theorem witness_push_frame : 0 < Claims.pushes .brk ∧ (nextOf (exec .brk inRam)).isSome = true := by decide
-- BrkEntersTheIrqHandler, IrqIsTaken…, NmiIsTaken…, PendingNmi…, ResetSets….
theorem witness_irq_vector : Claims.VectorIs (boot 0x8000#16 [] vectors) 0xFFFE 0x00#8 0x90#8 :=
  ⟨_, rfl, okOf (by decide), okOf (by decide)⟩
theorem witness_nmi_vector : Claims.VectorIs (boot 0x8000#16 [] vectors) 0xFFFA 0x00#8 0x85#8 :=
  ⟨_, rfl, okOf (by decide), okOf (by decide)⟩
theorem witness_reset_vector : Claims.VectorIs (boot 0x8000#16 [] vectors) 0xFFFC 0x00#8 0x80#8 :=
  ⟨_, rfl, okOf (by decide), okOf (by decide)⟩
theorem witness_noCart : noCart.cart = none := by decide
theorem witness_irq_taken : let s := { boot 0x8000#16 [] vectors with calls := [.irq] }
    s.run = none ∧ s.calls = [.irq] ∧ s.runState = .running ∧ s.p.i = false ∧ s.penalty = 0 ∧ s.stackFault = false ∧
    s.busFault = false := by decide
theorem witness_irq_masked : let s := { State.reset with calls := [.irq] }
    s.run = none ∧ s.calls = [.irq] ∧ s.p.i = true := by decide
theorem witness_irq_in_error : let s := { State.reset with calls := [.irq], runState := .error }
    s.run = none ∧ s.calls = [.irq] ∧ s.runState ≠ .running := by decide
theorem witness_nmi_taken : let s := { boot 0x8000#16 [] vectors with calls := [.nmi] }
    s.run = none ∧ s.calls = [.nmi] ∧ s.runState = .running ∧ s.penalty = 0 ∧ s.stackFault = false ∧ s.busFault = false := by
  decide
theorem witness_nmi_halted : let s := { State.construct with calls := [.nmi] }
    s.run = none ∧ s.calls = [.nmi] ∧ s.runState ≠ .running := by decide
theorem witness_pending_nmi : let s := { boot 0x8000#16 [] vectors with calls := [.run 0], nmiPending := true, s := 0x03#8 }
    s.run = none ∧ s.calls = [.run 0] ∧ s.runState = .running ∧ s.nmiPending = true ∧ 3 ≤ s.s.toNat ∧ s.penalty = 0 ∧
    s.stackFault = false ∧ s.busFault = false := by decide
theorem witness_pending_nmi_wraps : let s := { boot 0x8000#16 [] vectors with calls := [.run 0], nmiPending := true, s := 0x02#8 }
    s.run = none ∧ s.calls = [.run 0] ∧ s.runState = .running ∧ s.nmiPending = true ∧ s.s.toNat < 3 ∧ s.penalty = 0 ∧
    s.stackFault = false ∧ s.busFault = false ∧ Claims.VectorIs s 0xFFFA 0x00#8 0x85#8 :=
  ⟨rfl, rfl, rfl, rfl, by decide, rfl, rfl, rfl, _, rfl, okOf (by decide), okOf (by decide)⟩
theorem witness_pending_nmi_step : let s := { boot 0x8000#16 [] vectors with nmiPending := true, s := 0x00#8 }
    s.run = none ∧ s.calls = [] ∧ s.runState = .running ∧ s.nmiPending = true ∧ s.penalty = 0 ∧ s.stackFault = false ∧
    s.busFault = false ∧ Claims.VectorIs s 0xFFFA 0x00#8 0x85#8 :=
  ⟨rfl, rfl, rfl, rfl, rfl, rfl, rfl, _, rfl, okOf (by decide), okOf (by decide)⟩
theorem witness_run_starts : let s := { State.reset with calls := [.run 0] }
    s.run = none ∧ s.calls = [.run 0] ∧ s.runState = .running ∧ s.nmiPending = false := by decide
theorem witness_entry_noCart (call : HostCall) : let s := { noCart with calls := [call], p := noFlags, nmiPending := true }
    s.run = none ∧ s.calls = [call] ∧ s.runState = .running ∧ s.p.i = false ∧ s.nmiPending = true ∧ s.cart = none :=
  ⟨rfl, rfl, rfl, rfl, rfl, rfl⟩
theorem witness_reset : let s := { boot 0x8000#16 [] vectors with calls := [.reset], runState := .error }
    s.run = none ∧ s.calls = [.reset] ∧ s.busFault = false := by decide
theorem witness_reset_noCart : let s := { noCart with calls := [.reset] }
    s.run = none ∧ s.calls = [.reset] ∧ s.cart = none := by decide
-- RtiAfterIrqResumesTheInterruptedProgram.
theorem witness_rti_after_irq : State.reset.ram.wf ∧
    ∃ t u, irqEntry State.reset = .next t ∧ t.busFault = false ∧ exec .rti t = .next u := ⟨by decide, _, _, rfl, rfl, rfl⟩
-- NopChangesNothing.
theorem witness_nop : let s := cpu [0xEA#8]
    Claims.Idle s ∧ s.penalty = 0 ∧ s.stackFault = false ∧ s.busFault = false ∧ fetchByte s.pc s = .ok 0xEA#8 :=
  ⟨⟨rfl, rfl, rfl, rfl⟩, rfl, rfl, rfl, rfl⟩
-- StepRunsTheDecodedInstruction, at the last bytes of the address space and at the exact budget.
theorem witness_step_idle : let s := boot 0xFFFF#16 [0xEA#8] []
    Claims.Idle s ∧ fetchBytes (encode .nop).length s.pc s = .ok (encode .nop) := ⟨⟨rfl, rfl, rfl, rfl⟩, rfl⟩
theorem witness_step_run : let s := { cpu [0x4C#8, 0x00#8, 0x80#8] with run := some { budget := 10, spent := 7 } }
    s.run = some { budget := 10, spent := 7 } ∧ s.runState = .running ∧
    fetchBytes (encode (.jmpAbs 0x8000#16)).length s.pc s = .ok (encode (.jmpAbs 0x8000#16)) ∧
    7 + (Instr.jmpAbs 0x8000#16).baseCost ≤ 10 := ⟨rfl, rfl, okOf (by decide), by decide⟩
theorem witness_step_budget : let s := { cpu [0xEA#8] with run := some { budget := 8, spent := 7 } }
    s.run = some { budget := 8, spent := 7 } ∧ s.runState = .running ∧ fetchByte s.pc s = .ok 0xEA#8 ∧
    opcodeRow 0xEA#8 = some ⟨0xEA#8, "NOP", .implied, 2, false⟩ ∧ 8 < 7 + 2 := ⟨rfl, rfl, rfl, rfl, by decide⟩
theorem witness_settle : State.reset.busFault = false ∧ State.reset.runState = .running ∧
    ({ State.reset with runState := .error } : State).runState ≠ .running := by decide
theorem witness_settle_fault : (State.reset.busError).busFault = true ∧ (State.reset.busError).runState ≠ .running := by decide
theorem witness_step_stopped :
    ({ State.reset with runState := .error, run := some { budget := 8, spent := 5 } } : State).runState ≠ .running ∧
    State.construct.run = none ∧ State.construct.calls = [] ∧ State.construct.runState ≠ .running := by decide
-- UndefinedOpcodeEndsInErrorOnePastTheByte.
theorem witness_undefined_step : let s := cpu [0x02#8]
    Claims.Idle s ∧ fetchByte s.pc s = .ok 0x02#8 ∧ opcodeRow 0x02#8 = none := ⟨⟨rfl, rfl, rfl, rfl⟩, rfl, rfl⟩
theorem witness_undefined_run : let s := { cpu [0xFF#8] with run := some { budget := 0, spent := 0 } }
    s.run = some { budget := 0, spent := 0 } ∧ s.runState = .running ∧ fetchByte s.pc s = .ok 0xFF#8 ∧
    opcodeRow 0xFF#8 = none := ⟨rfl, rfl, rfl, rfl⟩
-- InstructionFetchFromTheUndecodedRegionIsRefused, at both ends of the region.
theorem witness_fetch_low : let s := { State.reset with pc := 0x2000#16 }
    Claims.Idle s ∧ 0x2000 ≤ s.pc.toNat ∧ s.pc.toNat < 0x8000 := ⟨⟨rfl, rfl, rfl, rfl⟩, by decide, by decide⟩
theorem witness_fetch_high : let s := { State.reset with pc := 0x7FFF#16, run := some { budget := 9, spent := 0 } }
    s.run = some { budget := 9, spent := 0 } ∧ s.runState = .running ∧ 0x2000 ≤ s.pc.toNat ∧ s.pc.toNat < 0x8000 := by decide
-- Its operand byte alone in the region, first and last; nothing to fetch from without a cartridge, at both ends of ROM.
theorem witness_fetch_operand : let s := { State.reset with pc := 0x1FFF#16, ram := mem [(0x7FF, 0xA9#8)] }
    Claims.Idle s ∧ fetchByte s.pc s = .ok 0xA9#8 ∧ opcodeRow 0xA9#8 = some ⟨0xA9#8, "LDA", .immediate, 2, false⟩ ∧
    1 ≤ Mode.immediate.operandBytes ∧ 0x2000 ≤ (s.pc + BitVec.ofNat 16 1).toNat ∧
    (s.pc + BitVec.ofNat 16 1).toNat < 0x8000 := ⟨⟨rfl, rfl, rfl, rfl⟩, rfl, rfl, by decide, by decide, by decide⟩
theorem witness_fetch_operand_run : let s :=
      { State.reset with
        pc := 0x1FFE#16, ram := mem [(0x7FE, 0xAD#8)], run := some { budget := 4, spent := 0 } }
    s.run = some { budget := 4, spent := 0 } ∧ s.runState = .running ∧ fetchByte s.pc s = .ok 0xAD#8 ∧
    opcodeRow 0xAD#8 = some ⟨0xAD#8, "LDA", .absolute, 4, false⟩ ∧ 0 + 4 ≤ 4 ∧ 2 ≤ Mode.absolute.operandBytes ∧
    0x2000 ≤ (s.pc + BitVec.ofNat 16 2).toNat ∧ (s.pc + BitVec.ofNat 16 2).toNat < 0x8000 :=
  ⟨rfl, rfl, rfl, rfl, by decide, by decide, by decide, by decide⟩
theorem witness_fetch_noCart_idle : let s := { noCart with pc := 0x8000#16 }
    Claims.Idle s ∧ 0x8000 ≤ s.pc.toNat ∧ s.cart = none := ⟨⟨rfl, rfl, rfl, rfl⟩, by decide, rfl⟩
theorem witness_fetch_noCart_run : let s := { noCart with pc := 0xFFFF#16, run := some { budget := 4, spent := 0 } }
    (∃ c, s.run = some c) ∧ s.runState = .running ∧ 0x8000 ≤ s.pc.toNat ∧ s.cart = none := ⟨⟨_, rfl⟩, rfl, by decide, rfl⟩
-- AFinishedProgramStaysFinished.
theorem witness_finished : let s := cpu [0x4C#8, 0x00#8, 0x80#8]
    Claims.Idle s ∧ s.ControlInvariant ∧ s.Finished := ⟨⟨rfl, rfl, rfl, rfl⟩, ⟨rfl, rfl, rfl, rfl, rfl⟩, rfl, okOf (by decide)⟩
-- HostOperationsReturnWhatTheBusGives, and UpdateSetsVblankAndRequestsTheNmi.
theorem witness_host (call : HostCall) : ({ State.reset with calls := [call] } : State).run = none ∧
    ({ State.reset with calls := [call] } : State).calls = [call] := ⟨rfl, rfl⟩
theorem witness_host_read : memRead 0x1FFF#16 { State.reset with calls := [] } = .ok 0x00#8 State.reset ∧
    memRead 0x4000#16 { State.reset with calls := [] } = .failed .undecoded := ⟨rfl, rfl⟩
theorem witness_host_write : (∃ t, memWrite 0x0000#16 0x01#8 { State.reset with calls := [] } = .ok () t) ∧
    memWrite 0xFFFF#16 0x01#8 { State.reset with calls := [] } = .failed .romWrite := ⟨⟨_, rfl⟩, rfl⟩
theorem witness_host_read_fatal : memRead 0x2007#16 noVrom = .fatal := by rfl
theorem witness_host_video_read : vidRead 0xFFFF { State.reset with calls := [] } = .ok 0x00#8 State.reset ∧
    vidRead 0x1FFF noCart = .failed .noCartridge ∧ vidRead 0x1FFF noVrom = .fatal := ⟨rfl, rfl, rfl⟩
theorem witness_host_video_write : (∃ t, vidWrite 0x2000 0x01#8 { State.reset with calls := [] } = .ok () t) ∧
    vidWrite 0x1FFF 0x01#8 { State.reset with calls := [] } = .failed .vramWrite := ⟨⟨_, rfl⟩, rfl⟩
theorem witness_host_mapper : State.reset.cart = some Cartridge.blank ∧ 0x1FFF < Cartridge.blank.vromPages * 0x2000 ∧
    Cartridge.blank.vromPages * 0x2000 ≤ 0x2000 ∧ noCart.cart = none := by decide
theorem witness_host_mapper_call : HostCall.readRAM 0x6000#16 ∈
    [HostCall.readROM 0x6000#16, .readRAM 0x6000#16, .writeRAM 0x6000#16 0x01#8, .readVROM 0, .flash 0 []] := by decide
theorem witness_update : let s := { State.reset with calls := [.update], ppu := { State.reset.ppu with ctrl2 := 0x18#8 } }
    s.run = none ∧ s.calls = [.update] ∧ s.ppu.ctrl1.getLsbD 5 = false ∧ ∃ c, s.cart = some c ∧ c.vromPages ≠ 0 :=
  ⟨rfl, rfl, rfl, _, rfl, by decide⟩
theorem witness_update_blind : let s := { noCart with calls := [.update] }
    s.run = none ∧ s.calls = [.update] ∧ s.ppu.ctrl1.getLsbD 5 = false ∧ s.ppu.bgVisible = false ∧ s.ppu.sprVisible = false := by
  decide
theorem witness_update_8x16 : let s := { State.reset with calls := [.update], ppu := { State.reset.ppu with ctrl1 := 0x20#8 } }
    s.run = none ∧ s.calls = [.update] ∧ s.ppu.ctrl1.getLsbD 5 = true := by decide
theorem witness_update_noCart : let s := { noCart with calls := [.update], ppu := { State.reset.ppu with ctrl2 := 0x08#8 } }
    s.run = none ∧ s.calls = [.update] ∧ s.ppu.ctrl1.getLsbD 5 = false ∧ s.ppu.bgVisible = true ∧ s.cart = none := by decide
theorem witness_update_noVrom : let s := { noVrom with calls := [.update], ppu := { State.reset.ppu with ctrl2 := 0x10#8 } }
    s.run = none ∧ s.calls = [.update] ∧ s.ppu.ctrl1.getLsbD 5 = false ∧ s.ppu.sprVisible = true ∧
    s.cart.map Cartridge.vromPages = some 0 := by decide
-- OnlyResetLeavesErrorAndNothingEntersHalted.
theorem witness_error_step : ({ State.reset with runState := .error, calls := [.run 5] } : State).runState ≠ .running ∧
    (nextOf (step { State.reset with runState := .error, calls := [.run 5] })).isSome = true := by decide
-- The invariants hold somewhere, and a step answers a next state there.
theorem witness_invariants : let s := { cpu [0xEA#8] with run := some { budget := 2, spent := 0 } }
    s.MemoriesCanonical ∧ s.ControlInvariant ∧ s.RunInvariant ∧ (nextOf (step s)).isSome = true := by
  refine ⟨⟨by decide, by decide, by decide, by decide, ?_, ?_⟩, ⟨rfl, rfl, rfl, rfl, rfl⟩, ?_, by decide⟩
  · intro c h; injection h with h; subst h; decide
  · intro c h; cases h
  · intro c h; injection h with h; subst h; decide
-- EveryStepKeepsTheRunWithinItsBound: a run call that ends over its budget, at an undefined opcode, by a stack wrap, at once.
/-- With a cartridge, no BusFault is ahead where no instruction begins with the byte at PC. -/
theorem noFaultAhead {s : State} {op : Byte} (hc : s.cart ≠ none) (hf : fetchByte s.pc s = .ok op)
    (h : ∀ i, i.opcode = op → ∀ u, exec i (beginInstr (encode i).length s) = .next u → u.busFault = false) :
    ¬ Claims.BusFaultAhead s := by
  rintro (⟨hn, _⟩ | ⟨i, u, hb, hu, ht⟩)
  · exact hc hn
  · have hi : i.opcode = op := by
      have e : (encode i).length = (encode i).tail.length + 1 := rfl
      rw [e] at hb
      simp only [fetchBytes, hf] at hb
      split at hb
      · cases hb
      · injection hb with hb
        exact (List.cons.inj hb).1.symm
    rw [h i hi u hu] at ht
    cases ht
theorem witness_run_ends : let s := { cpu [0xEA#8] with run := some { budget := 8, spent := 7 } }
    s.RunInvariant ∧ s.run = some { budget := 8, spent := 7 } ∧ ¬ Claims.BusFaultAhead s ∧
    ∃ t, step s = .next t ∧ t.run = none ∧ t.returned = .clocks 7 := by
  refine ⟨?_, rfl, noFaultAhead (op := 0xEA#8) (by decide) rfl ?_, _, rfl, rfl, rfl⟩
  · intro c h; injection h with h; subst h; decide
  · intro i hi u hu
    cases i <;> first | cases hi; done | (injection hu with hu; rw [← hu]; rfl)
theorem witness_run_ends_undefined : let s := { cpu [0x02#8] with run := some { budget := 8, spent := 7 } }
    s.RunInvariant ∧ s.run = some { budget := 8, spent := 7 } ∧ ¬ Claims.BusFaultAhead s ∧
    ∃ t, step s = .next t ∧ t.run = none ∧ t.runState = .error ∧ t.returned = .clocks 7 := by
  refine ⟨?_, rfl, noFaultAhead (op := 0x02#8) (by decide) rfl ?_, _, rfl, rfl, rfl, rfl⟩
  · intro c h; injection h with h; subst h; decide
  · intro i hi; cases i <;> cases hi
theorem witness_run_ends_wrapped : let s := { cpu [0x48#8] with s := 0x00#8, run := some { budget := 8, spent := 5 } }
    s.RunInvariant ∧ s.run = some { budget := 8, spent := 5 } ∧ ¬ Claims.BusFaultAhead s ∧
    ∃ t, step s = .next t ∧ t.run = none ∧ t.runState = .error ∧ t.returned = .clocks 8 := by
  refine ⟨?_, rfl, noFaultAhead (op := 0x48#8) (by decide) rfl ?_, _, rfl, rfl, rfl, rfl⟩
  · intro c h; injection h with h; subst h; decide
  · intro i hi u hu
    cases i <;> first | cases hi; done | (injection hu with hu; rw [← hu]; rfl)
theorem witness_run_ends_at_once : let s := { boot 0x8000#16 [] vectors with calls := [.run 0], nmiPending := true, s := 0x00#8 }
    s.run = none ∧ s.calls = [.run 0] ∧ s.cart ≠ none ∧
    ∃ t, step s = .next t ∧ t.run = none ∧ t.returned = .clocks 7 := ⟨rfl, rfl, by decide, _, rfl, rfl, rfl⟩
-- FlagsAreWritten…, RegistersAreWritten…, InstructionsDoNotReach…, InstructionsThatDoNotStore…: NOP meets every list at once.
theorem witness_nop_frame : exec .nop State.reset = .next State.reset ∧ Claims.mnemonicOf .nop = "NOP" ∧
    Claims.modeOf .nop ≠ .accumulator ∧ Claims.storedAt .nop State.reset = none ∧ Claims.pushes .nop = 0 :=
  ⟨rfl, rfl, by decide, rfl, rfl⟩
-- EveryInstructionAnswersANextStateUnlessVromIsMissing.
theorem witness_completes : ∀ c, State.reset.cart = some c → c.vromPages ≠ 0 := by
  intro c h; injection h with h; subst h; decide
theorem witness_fatal : exec (.ldaAbs 0x2007#16) noVrom = .fault .fatalVrom := by rfl
-- CpuReadsFollowTheAddressMap, CpuWritesFollowTheAddressMap: both ends of each window.
theorem witness_map_ends : (0x1FFF#16 : Addr).toNat < 0x2000 ∧ 0x2000 ≤ (0x3FFF#16 : Addr).toNat ∧
    (0x3FFF#16 : Addr).toNat < 0x4000 ∧ 0x4000 ≤ (0x401F#16 : Addr).toNat ∧ (0x401F#16 : Addr).toNat < 0x4020 ∧
    0x4020 ≤ (0x7FFF#16 : Addr).toNat ∧ (0x7FFF#16 : Addr).toNat < 0x8000 ∧ 0x8000 ≤ (0xBFFF#16 : Addr).toNat ∧
    (0xBFFF#16 : Addr).toNat < 0xC000 ∧ 0xC000 ≤ (0xFFFF#16 : Addr).toNat := by decide
theorem witness_map_cart : State.reset.cart = some Cartridge.blank ∧ noCart.cart = none := by decide
theorem witness_mirror : State.reset.ram.wf ∧ (0x0000#16 : Addr).toNat < 0x2000 ∧ (0x1800#16 : Addr).toNat < 0x2000 ∧
    (0x1800#16 : Addr).toNat % 0x0800 = (0x0000#16 : Addr).toNat % 0x0800 ∧
    ∃ t, memWrite 0x0000#16 0x01#8 State.reset = .ok () t := ⟨by decide, by decide, by decide, by decide, _, rfl⟩
-- PpuReadsHaveTheirSideEffects, PpuWritesHaveTheirSideEffects.
theorem witness_video_read : vidRead State.reset.ppu.vaddr.toNat State.reset = .ok 0x00#8 State.reset ∧
    vidRead noCart.ppu.vaddr.toNat noCart = .failed .noCartridge ∧ vidRead noVrom.ppu.vaddr.toNat noVrom = .fatal :=
  ⟨rfl, rfl, rfl⟩
theorem witness_video_write : let s := { State.reset with ppu := { State.reset.ppu with vaddr := 0x3FFF#16 } }
    ∃ t, vidWrite s.ppu.vaddr.toNat 0x01#8 s = .ok () t := ⟨_, rfl⟩
theorem witness_video_write_low : State.reset.ppu.vaddr.toNat % 0x4000 < 0x2000 := by decide
theorem witness_control1 : (0xDF#8 : Byte).getLsbD 5 = false ∧ (0x20#8 : Byte).getLsbD 5 = true := by decide
theorem witness_toggle : State.reset.ppu.toggle = false ∧
    ({ State.reset.ppu with toggle := true } : Ppu).toggle = true := by decide
-- VideoAddressesDecodeByTheMap.
theorem witness_video_map : 0x1FFF % 0x4000 < 0x2000 ∧ 0x2000 ≤ 0x3EFF % 0x4000 ∧ 0x3EFF % 0x4000 < 0x3F00 ∧
    0x3F00 ≤ 0xFFFF % 0x4000 ∧ 1 ≤ Cartridge.blank.vromPages ∧ noVrom.cart.map Cartridge.vromPages = some 0 ∧
    noCart.cart = none := by decide
-- BackgroundPassEmitsEveryVisibleTile.
theorem witness_frame : tileState.cart.map Cartridge.vromPages = some 1 := by decide
-- FlashedBytesAreReadBack: across the split, up to the last byte, one byte too many, and below the window.
theorem witness_flash : 2 ≤ Cartridge.blank.romPages ∧ Cartridge.blank.rom.wf ∧
    (Cartridge.blank.flash true 0xBFFF [0x01#8, 0x02#8]).1 = none ∧ 0xBFFF + 2 ≤ 0x10000 ∧
    (Cartridge.blank.flash true 0xFFFF [0x01#8]).1 = none ∧
    (Cartridge.blank.flash true 0xFFFF [0x01#8, 0x02#8]).1 = some .sizeOverflow ∧ 0x7FFF < 0x8000 := by decide

end Sys2Proof.Tests
end

/-! SUPPORT. The row of an opcode is found among the rows of its high nibble, so that looking up the mnemonic of an instruction
looks at 16 rows and not at 151 (30_encoding.md R116). -/

namespace Sys2Proof.StateFamily

open Sys2Proof Sys2Proof.Machine Sys2Proof.Claims

/-- The rows of the opcodes whose high nibble is `k`. -/
def opcodeRowsAt : Nat → List OpRow
  | 0 => opcodeRows0
  | 1 => opcodeRows1
  | 2 => opcodeRows2
  | 3 => opcodeRows3
  | 4 => opcodeRows4
  | 5 => opcodeRows5
  | 6 => opcodeRows6
  | 7 => opcodeRows7
  | 8 => opcodeRows8
  | 9 => opcodeRows9
  | 10 => opcodeRowsA
  | 11 => opcodeRowsB
  | 12 => opcodeRowsC
  | 13 => opcodeRowsD
  | 14 => opcodeRowsE
  | _ => opcodeRowsF

theorem opcodeTable_eq_flatMap : opcodeTable = (List.range 16).flatMap opcodeRowsAt := by rfl

theorem nibble_of_mem_opcodeRowsAt : ∀ k ∈ List.range 16, ∀ r ∈ opcodeRowsAt k, r.opcode.toNat / 16 = k := by decide

/-- A search through numbered lists, whose elements carry the number of their list, looks only at the list with the number
sought. -/
theorem find?_flatMap_of_key {α : Type} {f : Nat → List α} {key : α → Nat} {p : α → Bool} {k : Nat}
    (hp : ∀ a, p a = true → key a = k) :
    ∀ ks : List Nat, (∀ j ∈ ks, ∀ a ∈ f j, key a = j) → (ks.flatMap f).find? p = if k ∈ ks then (f k).find? p else none := by
  intro ks hkey
  induction ks with
  | nil => rfl
  | cons j ks ih =>
    rw [List.flatMap_cons, List.find?_append, ih (fun i hi => hkey i (List.mem_cons_of_mem j hi))]
    by_cases hj : j = k
    · subst hj
      cases (f j).find? p <;> simp
    · have hnone : (f j).find? p = none :=
        List.find?_eq_none.mpr (fun a ha hpa => hj ((hkey j List.mem_cons_self a ha).symm.trans (hp a hpa)))
      simp [hnone, Ne.symm hj]

theorem opcodeRow_eq (op : Byte) : opcodeRow op = (opcodeRowsAt (op.toNat / 16)).find? (fun r => r.opcode == op) := by
  have hk : op.toNat / 16 ∈ List.range 16 := List.mem_range.mpr (by have := op.isLt; omega)
  have hp (r : OpRow) (h : (r.opcode == op) = true) : r.opcode.toNat / 16 = op.toNat / 16 := by rw [eq_of_beq h]
  rw [opcodeRow, opcodeTable_eq_flatMap, find?_flatMap_of_key hp _ nibble_of_mem_opcodeRowsAt, if_pos hk]

/-- The mnemonic of an opcode, read off the rows of its high nibble. -/
def mnemonicAt (op : Byte) : Option String :=
  ((opcodeRowsAt (op.toNat / 16)).find? (fun r => r.opcode == op)).map OpRow.mnemonic

theorem mnemonicOf_eq {i : Instr} {m : String} (h : mnemonicAt i.opcode = some m) : mnemonicOf i = m := by
  rw [mnemonicOf, opcodeRow_eq, ← mnemonicAt, h]
  rfl

end Sys2Proof.StateFamily

/-! SUPPORT. What a bus access can do to the whole state: it keeps every memory canonical and 8x16 sprites off, and writes
nothing of the CPU (48_bus.md R300, R301, R306 to R308; 46_ppu_registers.md R241). -/

namespace Sys2Proof.StateFamily

open Sys2Proof Sys2Proof.Machine

/-- What a bus access leaves: it writes at most PPU registers, the writable memories and the draw counter. -/
structure BusEffect (s t : State) : Prop where
  frame : t = { s with ppu := t.ppu, ram := t.ram, nt := t.nt, pal := t.pal, spr := t.spr, draws := t.draws }
  sprSize : s.ppu.sprSize = false → t.ppu.sprSize = false
  memories : s.MemoriesCanonical → t.MemoriesCanonical

theorem BusEffect.refl (s : State) : BusEffect s s := ⟨rfl, id, id⟩

theorem BusEffect.trans {s t u : State} (h : BusEffect s t) (h' : BusEffect t u) : BusEffect s u where
  frame := by
    have hu := h'.frame
    rw [h.frame] at hu
    exact hu
  sprSize := h'.sprSize ∘ h.sprSize
  memories := h'.memories ∘ h.memories

theorem BusEffect.drawn (s : State) : BusEffect s s.drawn := ⟨rfl, id, id⟩

/-- A PPU register write other than to Control1. -/
theorem BusEffect.setPpu {s : State} {u : Ppu} (h : u.ctrl1 = s.ppu.ctrl1) : BusEffect s (s.setPpu u) where
  frame := rfl
  sprSize hs := by rw [State.setPpu_ppu, Ppu.sprSize, h]; exact hs
  memories := id

/-- Control1 takes no byte with bit 5 set (46_ppu_registers.md R241). -/
theorem BusEffect.setControl1 {s : State} {v : Byte} (h : v.getLsbD 5 = false) :
    BusEffect s (s.setPpu { s.ppu with ctrl1 := v }) :=
  ⟨rfl, fun _ => h, id⟩

theorem BusEffect.writeRam (s : State) (a : Addr) (v : Byte) : BusEffect s (s.writeRam a v) where
  frame := rfl
  sprSize := id
  memories hs := ⟨Memory.wfIn_write v (Nat.mod_lt _ (by decide)) hs.1, hs.2⟩

theorem palIndex_lt (a : Nat) : palIndex a < 32 := by
  dsimp only [palIndex]
  split <;> omega

/-- A video write that succeeds lands inside nametable or palette RAM (48_bus.md R306, R307). -/
theorem vidWrite_busEffect {a : Nat} {v : Byte} {s t : State} (h : vidWrite a v s = .ok () t) : BusEffect s t := by
  rcases vidWrite_ok h with rfl | rfl
  · refine ⟨rfl, id, fun ⟨hram, hnt, hrest⟩ => ⟨hram, Memory.wfIn_write v ?_ hnt, hrest⟩⟩
    rw [ntIndex_eq]
    omega
  · exact ⟨rfl, id, fun ⟨hram, hnt, hpal, hrest⟩ => ⟨hram, hnt, Memory.wfIn_write v (palIndex_lt _) hpal, hrest⟩⟩

/-- A sprite memory write lands inside sprite memory (48_bus.md R308). -/
theorem sprWrite_busEffect (i : Nat) (v : Byte) (s : State) : BusEffect s (sprWrite i v s) :=
  ⟨rfl, id, fun ⟨hram, hnt, hpal, hspr, hrest⟩ =>
    ⟨hram, hnt, hpal, Memory.wfIn_write v (Nat.mod_lt _ (by decide)) hspr, hrest⟩⟩

theorem vidRead_busEffect {a : Nat} {v : Byte} {s t : State} (h : vidRead a s = .ok v t) : BusEffect s t :=
  vidRead_ok h ▸ .refl s

/-- Every PPU slot read, with its side effect (46_ppu_registers.md R243, R245, R249, R250). -/
theorem ppuRead_busEffect {n : Slot} {v : Byte} {s t : State} (h : ppuRead n s = .ok v t) : BusEffect s t := by
  cases n with
  | control1 | control2 | spriteMemAddress | scroll | videoMemAddress =>
    injection h with _ ht
    exact ht ▸ .drawn s
  | status =>
    injection h with _ ht
    exact ht ▸ (BusEffect.drawn s).trans (.setPpu rfl)
  | spriteMemData =>
    injection h with _ ht
    subst ht
    split
    · exact .setPpu rfl
    · exact .refl s
  | videoMemData =>
    simp only [ppuRead, readVideoData] at h
    split at h
    · injection h with _ ht
      exact ht ▸ (vidRead_busEffect ‹_›).trans (.setPpu rfl)
    · cases h
    · cases h

/-- Every PPU slot write, with its side effect (46_ppu_registers.md R241, R242, R244 to R249). -/
theorem ppuWrite_busEffect {n : Slot} {v : Byte} {s t : State} (h : ppuWrite n v s = .ok () t) : BusEffect s t := by
  cases n with
  | control1 =>
    simp only [ppuWrite, writeControl1] at h
    split at h
    · cases h
    · injection h with _ ht
      exact ht ▸ .setControl1 (Bool.eq_false_iff.mpr ‹_›)
  | status =>
    injection h with _ ht
    exact ht ▸ .refl s
  | control2 | spriteMemAddress =>
    injection h with _ ht
    exact ht ▸ .setPpu rfl
  | scroll =>
    injection h with _ ht
    exact ht ▸ .setPpu (by unfold Ppu.writeScroll; split <;> rfl)
  | videoMemAddress =>
    injection h with _ ht
    exact ht ▸ .setPpu (by unfold Ppu.writeVaddr; split <;> rfl)
  | spriteMemData =>
    injection h with _ ht
    exact ht ▸ (sprWrite_busEffect _ v s).trans (.setPpu rfl)
  | videoMemData =>
    simp only [ppuWrite, writeVideoData] at h
    split at h
    · injection h with _ ht
      exact ht ▸ (vidWrite_busEffect ‹_›).trans (.setPpu rfl)
    · cases h
    · cases h

/-- A CPU read that succeeds (48_bus.md R300). -/
theorem memRead_busEffect {a : Addr} {v : Byte} {s t : State} (h : memRead a s = .ok v t) : BusEffect s t := by
  unfold memRead at h
  split at h
  · injection h with _ ht
    exact ht ▸ .refl s
  · exact ppuRead_busEffect h
  · cases h
  · exact mapperRead_ok h ▸ .refl s
  · exact mapperRead_ok h ▸ .refl s

/-- A CPU write that succeeds goes to RAM or to a PPU slot (48_bus.md R301). -/
theorem memWrite_busEffect {a : Addr} {v : Byte} {s t : State} (h : memWrite a v s = .ok () t) : BusEffect s t := by
  by_cases hram : a.toNat < 0x2000
  · rw [memWrite_ram hram] at h
    injection h with _ ht
    exact ht ▸ .writeRam s a v
  · by_cases hppu : a.toNat < 0x4000
    · rw [memWrite_ppu (by omega) hppu] at h
      exact ppuWrite_busEffect h
    · obtain ⟨f, hf⟩ := memWrite_high (v := v) (st := s) (Nat.not_lt.mp hppu)
      rw [hf] at h
      cases h

end Sys2Proof.StateFamily

/-! SUPPORT. What the CPU can do to the whole state, said once: `Touches l s t` for every operation an instruction or an
interrupt entry is made of, and the rules that compose it along the accesses of an instruction. -/

namespace Sys2Proof.StateFamily

open Sys2Proof Sys2Proof.Machine Sys2Proof.Claims

/-- Every next state a result answers meets `P`; a fault or a refusal answers none. -/
def Ensures (r : Result) (P : State → Prop) : Prop := ∀ t, r = .next t → P t

theorem ensures_next {P : State → Prop} {t : State} (h : P t) : Ensures (.next t) P := by
  rintro _ ⟨⟩
  exact h

theorem ensures_onNext {f : State → State} {r : Result} {P : State → Prop} (h : Ensures r (fun t => P (f t))) :
    Ensures (onNext f r) P := by
  cases r with
  | next t => exact ensures_next (h t rfl)
  | fault _ | refused _ => rintro _ ⟨⟩

theorem Ensures.imp {r : Result} {P Q : State → Prop} (h : Ensures r P) (hPQ : ∀ t, P t → Q t) : Ensures r Q :=
  fun t ht => hPQ t (h t ht)

/-- The CPU's registers and the flags that are written (10_state.md R20 to R24); no instruction writes B (R22). -/
inductive Reg where
  | a | x | y | s | pc | c | z | i | d | v | n
  deriving DecidableEq

/-- The register is the same in both states. -/
def Reg.Same (s t : State) : Reg → Prop
  | .a => t.a = s.a
  | .x => t.x = s.x
  | .y => t.y = s.y
  | .s => t.s = s.s
  | .pc => t.pc = s.pc
  | .c => t.p.c = s.p.c
  | .z => t.p.z = s.p.z
  | .i => t.p.i = s.p.i
  | .d => t.p.d = s.p.d
  | .v => t.p.v = s.p.v
  | .n => t.p.n = s.p.n

theorem Reg.Same.trans {s t u : State} {r : Reg} (h : r.Same s t) (h' : r.Same t u) : r.Same s u := by
  cases r <;> exact Eq.trans h' h

/-- From `s` to `t` the CPU wrote, of its registers and flags, at most those in `l`: never B, nothing of the host's, and
memory and PPU only as a bus access does; its run state stayed or became Error. -/
structure Touches (l : List Reg) (s t : State) : Prop where
  frame : t = { s with
    a := t.a, x := t.x, y := t.y, s := t.s, p := t.p, pc := t.pc, runState := t.runState, nmiCount := t.nmiCount,
    rtiCount := t.rtiCount, penalty := t.penalty, stackFault := t.stackFault, busFault := t.busFault, ppu := t.ppu,
    ram := t.ram, nt := t.nt, pal := t.pal, spr := t.spr, draws := t.draws }
  brk : t.p.b = s.p.b
  runState : t.runState = s.runState ∨ t.runState = .error
  sprSize : s.ppu.sprSize = false → t.ppu.sprSize = false
  memories : s.MemoriesCanonical → t.MemoriesCanonical
  same : ∀ r ∉ l, r.Same s t

namespace Touches

theorem trans {l : List Reg} {s t u : State} (h : Touches l s t) (h' : Touches l t u) : Touches l s u where
  frame := by
    have hu := h'.frame
    rw [h.frame] at hu
    exact hu
  brk := h'.brk.trans h.brk
  runState := by
    rcases h'.runState with hu | hu
    · rw [hu]
      exact h.runState
    · exact .inr hu
  sprSize := h'.sprSize ∘ h.sprSize
  memories := h'.memories ∘ h.memories
  same r hr := (h.same r hr).trans (h'.same r hr)

theorem mono {l l' : List Reg} {s t : State} (h : Touches l s t) (hl : l ⊆ l') : Touches l' s t :=
  { h with same := fun r hr => h.same r (fun hr' => hr (hl hr')) }

theorem widen {l : List Reg} {s t : State} (h : Touches [] s t) : Touches l s t := h.mono (List.nil_subset l)

/-- A change of registers and of what is local to an instruction alone. -/
theorem of_registers {l : List Reg} {s t : State}
    (frame : t = { s with
      a := t.a, x := t.x, y := t.y, s := t.s, p := t.p, pc := t.pc, nmiCount := t.nmiCount, rtiCount := t.rtiCount,
      penalty := t.penalty, stackFault := t.stackFault, draws := t.draws })
    (brk : t.p.b = s.p.b) (same : ∀ r, r ∉ l → r.Same s t) : Touches l s t where
  frame := by rw [frame]
  brk := brk
  runState := .inl (by rw [frame])
  sprSize h := by
    rw [frame]
    exact h
  memories h := by
    rw [frame]
    exact h
  same := same

theorem refl (l : List Reg) (s : State) : Touches l s s := of_registers rfl rfl (fun r _ => by cases r <;> rfl)

theorem of_busEffect {l : List Reg} {s t : State} (h : BusEffect s t) : Touches l s t where
  frame := by rw [h.frame]
  brk := by rw [h.frame]
  runState := .inl (by rw [h.frame])
  sprSize := h.sprSize
  memories := h.memories
  same r _ := by
    rw [h.frame]
    cases r <;> rfl

end Touches
end Sys2Proof.StateFamily

/-! SUPPORT. `Touches` for each operation of the model, and the rules that compose it along an operation's bus accesses. -/

namespace Sys2Proof.StateFamily

open Sys2Proof Sys2Proof.Machine Sys2Proof.Claims

namespace Touches

variable (s : State)

/-! The updates of registers and flags. -/

theorem setA (v : Byte) : Touches [.a] s (s.setA v) := of_registers rfl rfl (by rintro ⟨⟩ <;> simp [Reg.Same])

theorem setX (v : Byte) : Touches [.x] s (s.setX v) := of_registers rfl rfl (by rintro ⟨⟩ <;> simp [Reg.Same])

theorem setY (v : Byte) : Touches [.y] s (s.setY v) := of_registers rfl rfl (by rintro ⟨⟩ <;> simp [Reg.Same])

theorem setS (v : Byte) : Touches [.s] s (s.setS v) := of_registers rfl rfl (by rintro ⟨⟩ <;> simp [Reg.Same])

theorem setPc (v : Addr) : Touches [.pc] s (s.setPc v) := of_registers rfl rfl (by rintro ⟨⟩ <;> simp [Reg.Same])

theorem setPenalty (n : Nat) : Touches [] s (s.setPenalty n) := of_registers rfl rfl (by rintro ⟨⟩ <;> simp [Reg.Same])

theorem setStackFault (b : Bool) : Touches [] s (s.setStackFault b) :=
  of_registers rfl rfl (by rintro ⟨⟩ <;> simp [Reg.Same])

theorem setP {l : List Reg} {q : Flags} (brk : q.b = s.p.b) (same : ∀ r, r ∉ l → r.Same s (s.setP q)) :
    Touches l s (s.setP q) := of_registers rfl brk same

theorem setZN (v : Byte) : Touches [.z, .n] s (s.setP (s.p.setZN v)) :=
  setP s rfl (by rintro ⟨⟩ <;> simp [Reg.Same, Flags.setZN])

theorem setCZN (c : Bool) (v : Byte) : Touches [.c, .z, .n] s (s.setP (s.p.setCZN c v)) :=
  setP s rfl (by rintro ⟨⟩ <;> simp [Reg.Same, Flags.setCZN, Flags.setZN])

theorem setCVZN (c v : Bool) (r : Byte) : Touches [.c, .z, .v, .n] s (s.setP (s.p.setCVZN c v r)) :=
  setP s rfl (by rintro ⟨⟩ <;> simp [Reg.Same, Flags.setCVZN, Flags.setZN])

/-- A popped status byte leaves B (44_stack_and_flags.md R216). -/
theorem loadFlags (v : Byte) : Touches [.c, .z, .i, .d, .v, .n] s (s.setP (s.p.load v)) :=
  setP s rfl (by rintro ⟨⟩ <;> simp [Reg.Same, Flags.load])

theorem bitTest (m : Byte) : Touches [.z, .v, .n] s (bitTest m s) :=
  setP s rfl (by rintro ⟨⟩ <;> simp [Reg.Same])

theorem loadA (v : Byte) : Touches [.a, .z, .n] s (loadA v s) :=
  ((setA s v).mono (by simp)).trans ((setZN (s.setA v) v).mono (by simp))

theorem loadX (v : Byte) : Touches [.x, .z, .n] s (loadX v s) :=
  ((setX s v).mono (by simp)).trans ((setZN (s.setX v) v).mono (by simp))

theorem loadY (v : Byte) : Touches [.y, .z, .n] s (loadY v s) :=
  ((setY s v).mono (by simp)).trans ((setZN (s.setY v) v).mono (by simp))

theorem addToA (m : Byte) : Touches [.a, .c, .z, .v, .n] s (addToA m s) := by
  rw [addToA_eq]
  exact ((setA s _).mono (by simp)).trans ((setCVZN (s.setA _) _ _ _).mono (by simp))

theorem compareReg (reg m : Byte) : Touches [.c, .z, .n] s (compareReg reg m s) := setCZN s _ _

theorem shiftA (compute : Byte → State → ShiftResult) : Touches [.a, .c, .z, .n] s (shiftA compute s) :=
  ((setA s _).mono (by simp)).trans ((setCZN (s.setA _) _ _).mono (by simp))

theorem branch (cond : Bool) (d : Byte) : Touches [.pc] s (branch cond d s) := by
  unfold Machine.branch
  dsimp only
  split
  · exact (setPenalty s _).widen.trans (setPc _ _)
  · exact refl _ s

/-! What is unspecified after a refused access (00_scope.md R11). -/

theorem drawn : Touches [] s s.drawn := of_busEffect (.drawn s)

theorem spoilFlags {l : List Reg} {c z v n : Bool} (hc : c = true → .c ∈ l) (hz : z = true → .z ∈ l)
    (hv : v = true → .v ∈ l) (hn : n = true → .n ∈ l) : Touches l s (s.spoilFlags c z v n) := by
  refine of_registers rfl rfl ?_
  rintro ⟨⟩ hr <;> simp only [Reg.Same, State.spoilFlags, State.drawn_p, State.setP_p]
  case c => exact if_neg (fun h => hr (hc h))
  case z => exact if_neg (fun h => hr (hz h))
  case v => exact if_neg (fun h => hr (hv h))
  case n => exact if_neg (fun h => hr (hn h))
  all_goals rfl

theorem spoilAZN : Touches [.a, .z, .n] s (spoilAZN s) :=
  (((setA s _).trans (drawn _).widen).mono (by simp)).trans
    (spoilFlags _ (by decide) (by decide) (by decide) (by decide))

theorem spoilXZN : Touches [.x, .z, .n] s (spoilXZN s) :=
  (((setX s _).trans (drawn _).widen).mono (by simp)).trans
    (spoilFlags _ (by decide) (by decide) (by decide) (by decide))

theorem spoilYZN : Touches [.y, .z, .n] s (spoilYZN s) :=
  (((setY s _).trans (drawn _).widen).mono (by simp)).trans
    (spoilFlags _ (by decide) (by decide) (by decide) (by decide))

theorem spoilACZVN : Touches [.a, .c, .z, .v, .n] s (spoilACZVN s) :=
  (((setA s _).trans (drawn _).widen).mono (by simp)).trans
    (spoilFlags _ (by decide) (by decide) (by decide) (by decide))

theorem spoilCZN : Touches [.c, .z, .n] s (spoilCZN s) :=
  spoilFlags _ (by decide) (by decide) (by decide) (by decide)

theorem spoilZVN : Touches [.z, .v, .n] s (spoilZVN s) :=
  spoilFlags _ (by decide) (by decide) (by decide) (by decide)

theorem spoilZN : Touches [.z, .n] s (spoilZN s) :=
  spoilFlags _ (by decide) (by decide) (by decide) (by decide)

theorem spoilPc : Touches [.pc] s s.spoilPc := (setPc s _).trans (drawn _).widen

theorem spoilNmi : Touches [.pc] s s.spoilNmi :=
  (spoilPc s).trans (of_registers rfl rfl (fun r _ => by cases r <;> rfl))

theorem busError : Touches [] s s.busError :=
  ⟨rfl, rfl, .inr rfl, id, id, fun r _ => by cases r <;> rfl⟩

/-! The stack and the interrupt frame (44_stack_and_flags.md R210 to R212; 60_exceptions.md R357, R362). -/

theorem stackBegin : Touches [] s (stackBegin s) := setStackFault s false

theorem stackEnd : Touches [] s (stackEnd s) := by
  unfold Machine.stackEnd
  split
  · exact ⟨rfl, rfl, .inr rfl, id, id, fun r _ => by cases r <;> rfl⟩
  · exact refl _ s

theorem push (v : Byte) : Touches [.s] s (push v s) :=
  ((of_busEffect (.writeRam s s.stackAddr v)).trans (setStackFault _ _).widen).trans (setS _ _)

theorem pulled : Touches [.s] s (pulled s) := (setStackFault s _).widen.trans (setS _ _)

theorem pushAddr (v : Addr) : Touches [.s] s (pushAddr v s) := (push s _).trans (push _ _)

theorem pushFrame (ret : Addr) (brk : Bool) : Touches [.s, .i] s (pushFrame ret brk s) :=
  (((pushAddr s ret).trans (push _ _)).mono (by simp)).trans (setP _ rfl (by rintro ⟨⟩ <;> simp [Reg.Same]))

theorem countNmi : Touches [] s s.countNmi := of_registers rfl rfl (fun r _ => by cases r <;> rfl)

theorem countRti (n : Nat) : Touches [] s { s with rtiCount := n } :=
  of_registers rfl rfl (fun r _ => by cases r <;> rfl)

/-- RTI pops P without B, then PC, and counts itself (45_system.md R231). -/
theorem returnFromInterrupt : Touches [.s, .pc, .c, .z, .i, .d, .v, .n] s (returnFromInterrupt s) := by
  unfold Machine.returnFromInterrupt
  extract_lets t u w x
  have ht : Touches [.s, .pc, .c, .z, .i, .d, .v, .n] s t := (stackBegin s).widen.trans ((pulled _).mono (by simp))
  have hu : Touches [.s, .pc, .c, .z, .i, .d, .v, .n] t u :=
    ((loadFlags t _).mono (by simp)).trans ((pulled _).mono (by simp))
  have hx : Touches [.s, .pc, .c, .z, .i, .d, .v, .n] u x :=
    ((pulled u).mono (by simp)).trans ((setPc w _).mono (by simp))
  clear_value x
  exact ((ht.trans hu).trans hx).trans ((countRti x _).trans (stackEnd _)).widen

theorem charge (pl : Place) (op : Byte) : Touches [] s (pl.charge op s) := by
  unfold Place.charge
  split
  · exact setPenalty s 1
  · exact refl _ s

end Touches

/-! The rules that compose an operation along its bus accesses: a refused access ends it in a BusFault. -/

variable {l : List Reg} {s : State} {spoil : State → State}

theorem Touches.ensures_trans {t : State} {r : Result} (h : Touches l s t) (hr : Ensures r (Touches l t)) :
    Ensures r (Touches l s) := hr.imp (fun _ => h.trans)

theorem ensures_readThen {a : Addr} {k : Byte → State → Result} (hspoil : ∀ t, Touches l t (spoil t))
    (hk : ∀ v t, Ensures (k v t) (Touches l t)) : Ensures (readThen a spoil k s) (Touches l s) := by
  intro r h
  rcases readThen_next h with ⟨v, t, hv, hr⟩ | ⟨_, _, rfl⟩
  · exact (Touches.of_busEffect (memRead_busEffect hv)).trans (hk v t r hr)
  · exact (hspoil s).trans (Touches.busError _).widen

theorem ensures_writeThen {a : Addr} {v : Byte} {k : State → Result} (hspoil : ∀ t, Touches l t (spoil t))
    (hk : ∀ t, Ensures (k t) (Touches l t)) : Ensures (writeThen a v spoil k s) (Touches l s) := by
  intro r h
  rcases writeThen_next h with ⟨t, ht, hr⟩ | ⟨_, _, rfl⟩
  · exact (Touches.of_busEffect (memWrite_busEffect ht)).trans (hk t r hr)
  · exact (hspoil s).trans (Touches.busError _).widen

theorem ensures_readOperand {op : Byte} {form : State → Place} {effect : Byte → State → State}
    (hspoil : ∀ t, Touches l t (spoil t)) (heffect : ∀ t m, Touches l t (effect m t)) :
    Ensures (readOperand op form spoil effect s) (Touches l s) :=
  (Touches.charge s (form s) op).widen.ensures_trans
    (ensures_readThen hspoil (fun m t => ensures_next (heffect t m)))

theorem ensures_storeOperand {op : Byte} {form : State → Place} {v : Byte} :
    Ensures (storeOperand op form v s) (Touches [] s) :=
  (Touches.charge s (form s) op).ensures_trans
    (ensures_writeThen (.refl []) (fun t => ensures_next (.refl [] t)))

theorem ensures_modifyOperand {op : Byte} {form : State → Place} {compute : Byte → State → ShiftResult}
    {flags : ShiftResult → Flags → Flags} (hspoil : ∀ t, Touches l t (spoil t))
    (hflags : ∀ t r, Touches l t (t.setP (flags r t.p))) :
    Ensures (modifyOperand op form spoil compute flags s) (Touches l s) :=
  (Touches.charge s (form s) op).widen.ensures_trans
    (ensures_readThen hspoil (fun _ _ => ensures_writeThen hspoil (fun u => ensures_next (hflags u _))))

theorem ensures_jumpThrough (ptr : Addr) : Ensures (jumpThrough ptr s) (Touches [.pc] s) :=
  ensures_readThen .spoilPc (fun _ _ => ensures_readThen .spoilPc (fun _ u => ensures_next (.setPc u _)))

/-- Taking an interrupt: the stack, I, and PC from the vector (60_exceptions.md R357). -/
theorem ensures_enterInterrupt {ret vector : Addr} {brk : Bool} {finish : State → State}
    (hspoil : ∀ t, Touches [.pc] t (spoil t)) (hfinish : ∀ t, Touches [] t (finish t)) :
    Ensures (enterInterrupt ret brk vector finish spoil s) (Touches [.s, .i, .pc] s) := by
  have hframe : Touches [.s, .i, .pc] s (pushFrame ret brk (stackBegin s)) :=
    (Touches.stackBegin s).widen.trans ((Touches.pushFrame _ ret brk).mono (by simp))
  have hspoil' (t : State) : Touches [.s, .i, .pc] t (spoil t) := (hspoil t).mono (by simp)
  have hend (u : State) (pc : Addr) : Touches [.s, .i, .pc] u (stackEnd (finish (u.setPc pc))) :=
    (((Touches.setPc u pc).mono (by simp)).trans (hfinish _).widen).trans (Touches.stackEnd _).widen
  exact hframe.ensures_trans
    (ensures_readThen hspoil' (fun _ _ => ensures_readThen hspoil' (fun _ u => ensures_next (hend u _))))

end Sys2Proof.StateFamily

/-! SUPPORT. The writers of each register and flag (10_state.md R20 to R24), and that an instruction writes no other: one case
per mnemonic and kind of operand. -/

namespace Sys2Proof.StateFamily

open Sys2Proof Sys2Proof.Machine Sys2Proof.Claims

namespace Touches

variable (s : State)

theorem setCarry (c : Bool) : Touches [.c] s (s.setP { s.p with c := c }) :=
  setP s rfl (by rintro ⟨⟩ <;> simp [Reg.Same])

theorem setInterrupt (i : Bool) : Touches [.i] s (s.setP { s.p with i := i }) :=
  setP s rfl (by rintro ⟨⟩ <;> simp [Reg.Same])

theorem setDecimal (d : Bool) : Touches [.d] s (s.setP { s.p with d := d }) :=
  setP s rfl (by rintro ⟨⟩ <;> simp [Reg.Same])

theorem setOverflow (v : Bool) : Touches [.v] s (s.setP { s.p with v := v }) :=
  setP s rfl (by rintro ⟨⟩ <;> simp [Reg.Same])

/-- The stack bound at the start and the end of an instruction that uses the stack (44_stack_and_flags.md R212). -/
theorem stackUse {l : List Reg} {s t : State} (h : Touches l (Machine.stackBegin s) t) : Touches l s (Machine.stackEnd t) :=
  ((stackBegin s).widen.trans h).trans (stackEnd t).widen

/-- JSR: two pushes, then PC (43_control_flow.md R200). -/
theorem callSubroutine (ret addr : Addr) :
    Touches [.s, .pc] s (Machine.stackEnd ((Machine.pushAddr ret (Machine.stackBegin s)).setPc addr)) :=
  stackUse (((pushAddr _ ret).mono (by simp)).trans ((setPc _ addr).mono (by simp)))

/-- A pull, then what is done with the popped byte (44_stack_and_flags.md R211). -/
theorem afterPull {l : List Reg} {s t : State} (hl : .s ∈ l) (h : Touches l (Machine.pulled (Machine.stackBegin s)) t) :
    Touches l s (Machine.stackEnd t) :=
  stackUse (((pulled _).mono (by simpa using hl)).trans h)

/-- RTS: two pulls, then PC (43_control_flow.md R201). -/
theorem returnFromSubroutine (pc : Addr) :
    Touches [.s, .pc] s (Machine.stackEnd ((Machine.pulled (Machine.pulled (Machine.stackBegin s))).setPc pc)) :=
  afterPull (by simp) (((pulled _).mono (by simp)).trans ((setPc _ pc).mono (by simp)))

theorem pullA (v : Byte) :
    Touches [.s, .a, .z, .n] s (Machine.stackEnd (Machine.loadA v (Machine.pulled (Machine.stackBegin s)))) :=
  afterPull (by simp) ((loadA _ v).mono (by simp))

theorem pullFlags (v : Byte) :
    Touches [.s, .c, .z, .i, .d, .v, .n] s
      (Machine.stackEnd ((Machine.pulled (Machine.stackBegin s)).setP ((Machine.pulled (Machine.stackBegin s)).p.load v))) :=
  afterPull (by simp) ((loadFlags _ v).mono (by simp))

end Touches

/-- The mnemonics that write a register or flag (10_state.md R20 to R24). -/
def Reg.writers : Reg → List String
  | .a => ["LDA", "TXA", "TYA", "PLA", "ADC", "SBC", "AND", "ORA", "EOR"]
  | .x => ["LDX", "TAX", "TSX", "INX", "DEX"]
  | .y => ["LDY", "TAY", "INY", "DEY"]
  | .s => ["TXS", "PHA", "PHP", "PLA", "PLP", "JSR", "RTS", "BRK", "RTI"]
  | .pc => ["BCC", "BCS", "BEQ", "BMI", "BNE", "BPL", "BVC", "BVS", "JMP", "JSR", "RTS", "RTI", "BRK"]
  | .c => ["ADC", "SBC", "CMP", "CPX", "CPY", "ASL", "LSR", "ROL", "ROR", "CLC", "SEC", "PLP", "RTI"]
  | .z | .n =>
    ["LDA", "LDX", "LDY", "TAX", "TAY", "TXA", "TYA", "TSX", "PLA", "AND", "ORA", "EOR", "ADC", "SBC", "CMP", "CPX", "CPY",
      "BIT", "INC", "DEC", "INX", "INY", "DEX", "DEY", "ASL", "LSR", "ROL", "ROR", "PLP", "RTI"]
  | .i => ["SEI", "CLI", "PLP", "RTI", "BRK"]
  | .d => ["SED", "CLD", "PLP", "RTI"]
  | .v => ["ADC", "SBC", "BIT", "CLV", "PLP", "RTI"]

/-- An instruction may write a register: its mnemonic is listed for it, or it is an accumulator form, which writes A
(42_shift_rotate.md R180). -/
def Writes (i : Instr) (r : Reg) : Prop := mnemonicOf i ∈ r.writers ∨ r = .a ∧ modeOf i = .accumulator

/-- `Touches` with registers that the instruction may write. -/
def TouchesOwn (i : Instr) (s t : State) : Prop := ∃ l, Touches l s t ∧ ∀ r ∈ l, Writes i r

/-- From a bound `l` on what is written: where this is used the instruction and `l` are given, and the two lookups, of its
mnemonic and of that mnemonic among the writers, are evaluated. -/
theorem touchesOwn {i : Instr} {l : List Reg} {r : Result} {s : State} (m : String) (h : Ensures r (Touches l s))
    (hm : mnemonicAt i.opcode = some m := by simp only [Instr.opcode]; decide)
    (hl : ∀ r ∈ l, m ∈ r.writers := by simp [Reg.writers]) : Ensures r (TouchesOwn i s) :=
  h.imp (fun _ ht => ⟨l, ht, fun r hr => .inl (mnemonicOf_eq hm ▸ hl r hr)⟩)

theorem touchesOwn_nil {i : Instr} {r : Result} {s : State} (h : Ensures r (Touches [] s)) : Ensures r (TouchesOwn i s) :=
  h.imp (fun _ ht => ⟨[], ht, by simp⟩)

/-- The accumulator forms: A is written because of the mode. -/
theorem touchesOwn_acc {i : Instr} {l : List Reg} {r : Result} {s : State} (m : String) (hmode : modeOf i = .accumulator)
    (h : Ensures r (Touches l s)) (hm : mnemonicAt i.opcode = some m := by simp only [Instr.opcode]; decide)
    (hl : ∀ r ∈ l, r ≠ .a → m ∈ r.writers := by simp [Reg.writers]) : Ensures r (TouchesOwn i s) := by
  refine h.imp (fun _ ht => ⟨l, ht, fun r hr => ?_⟩)
  by_cases ha : r = .a
  · exact .inr ⟨ha, hmode⟩
  · exact .inl (mnemonicOf_eq hm ▸ hl r hr ha)

/-- What an instruction does to the state, case by mnemonic: a meaning composed of the operations above. -/
theorem exec_touchesOwn (i : Instr) (s : State) : Ensures (exec i s) (TouchesOwn i s) := by
  cases i with
  | ldaImm _ => exact touchesOwn "LDA" (ensures_next (.loadA s _))
  | ldaZp _ | ldaZpX _ | ldaAbs _ | ldaAbsX _ | ldaAbsY _ | ldaIndX _ | ldaIndY _ =>
    exact touchesOwn "LDA" (ensures_readOperand .spoilAZN .loadA)
  | ldxImm _ => exact touchesOwn "LDX" (ensures_next (.loadX s _))
  | ldxZp _ | ldxZpY _ | ldxAbs _ | ldxAbsY _ =>
    exact touchesOwn "LDX" (ensures_readOperand .spoilXZN .loadX)
  | ldyImm _ => exact touchesOwn "LDY" (ensures_next (.loadY s _))
  | ldyZp _ | ldyZpX _ | ldyAbs _ | ldyAbsX _ =>
    exact touchesOwn "LDY" (ensures_readOperand .spoilYZN .loadY)
  | staZp _ | staZpX _ | staAbs _ | staAbsX _ | staAbsY _ | staIndX _ | staIndY _ | stxZp _ | stxZpY _ | stxAbs _
  | styZp _ | styZpX _ | styAbs _ =>
    exact touchesOwn_nil ensures_storeOperand
  | tax => exact touchesOwn "TAX" (ensures_next (.loadX s _))
  | tay => exact touchesOwn "TAY" (ensures_next (.loadY s _))
  | txa => exact touchesOwn "TXA" (ensures_next (.loadA s _))
  | tya => exact touchesOwn "TYA" (ensures_next (.loadA s _))
  | tsx => exact touchesOwn "TSX" (ensures_next (.loadX s _))
  | txs => exact touchesOwn "TXS" (ensures_next (.setS s _))
  | adcImm _ => exact touchesOwn "ADC" (ensures_next (.addToA s _))
  | adcZp _ | adcZpX _ | adcAbs _ | adcAbsX _ | adcAbsY _ | adcIndX _ | adcIndY _ =>
    exact touchesOwn "ADC" (ensures_readOperand .spoilACZVN .addToA)
  | sbcImm _ => exact touchesOwn "SBC" (ensures_next (.addToA s _))
  | sbcZp _ | sbcZpX _ | sbcAbs _ | sbcAbsX _ | sbcAbsY _ | sbcIndX _ | sbcIndY _ =>
    exact touchesOwn "SBC" (ensures_readOperand .spoilACZVN (fun t _ => .addToA t _))
  | andImm _ => exact touchesOwn "AND" (ensures_next (.loadA s _))
  | andZp _ | andZpX _ | andAbs _ | andAbsX _ | andAbsY _ | andIndX _ | andIndY _ =>
    exact touchesOwn "AND" (ensures_readOperand .spoilAZN (fun t _ => .loadA t _))
  | oraImm _ => exact touchesOwn "ORA" (ensures_next (.loadA s _))
  | oraZp _ | oraZpX _ | oraAbs _ | oraAbsX _ | oraAbsY _ | oraIndX _ | oraIndY _ =>
    exact touchesOwn "ORA" (ensures_readOperand .spoilAZN (fun t _ => .loadA t _))
  | eorImm _ => exact touchesOwn "EOR" (ensures_next (.loadA s _))
  | eorZp _ | eorZpX _ | eorAbs _ | eorAbsX _ | eorAbsY _ | eorIndX _ | eorIndY _ =>
    exact touchesOwn "EOR" (ensures_readOperand .spoilAZN (fun t _ => .loadA t _))
  | cmpImm _ => exact touchesOwn "CMP" (ensures_next (.compareReg s _ _))
  | cmpZp _ | cmpZpX _ | cmpAbs _ | cmpAbsX _ | cmpAbsY _ | cmpIndX _ | cmpIndY _ =>
    exact touchesOwn "CMP" (ensures_readOperand .spoilCZN (fun t _ => .compareReg t _ _))
  | cpxImm _ => exact touchesOwn "CPX" (ensures_next (.compareReg s _ _))
  | cpxZp _ | cpxAbs _ =>
    exact touchesOwn "CPX" (ensures_readOperand .spoilCZN (fun t _ => .compareReg t _ _))
  | cpyImm _ => exact touchesOwn "CPY" (ensures_next (.compareReg s _ _))
  | cpyZp _ | cpyAbs _ =>
    exact touchesOwn "CPY" (ensures_readOperand .spoilCZN (fun t _ => .compareReg t _ _))
  | bitZp _ | bitAbs _ =>
    exact touchesOwn "BIT" (ensures_readOperand .spoilZVN .bitTest)
  | incZp _ | incZpX _ | incAbs _ | incAbsX _ =>
    exact touchesOwn "INC" (ensures_modifyOperand .spoilZN (fun t _ => .setZN t _))
  | decZp _ | decZpX _ | decAbs _ | decAbsX _ =>
    exact touchesOwn "DEC" (ensures_modifyOperand .spoilZN (fun t _ => .setZN t _))
  | inx => exact touchesOwn "INX" (ensures_next (.loadX s _))
  | iny => exact touchesOwn "INY" (ensures_next (.loadY s _))
  | dex => exact touchesOwn "DEX" (ensures_next (.loadX s _))
  | dey => exact touchesOwn "DEY" (ensures_next (.loadY s _))
  | aslAcc => exact touchesOwn_acc "ASL" rfl (ensures_next (.shiftA s _))
  | aslZp _ | aslZpX _ | aslAbs _ | aslAbsX _ =>
    exact touchesOwn "ASL" (ensures_modifyOperand .spoilCZN (fun t _ => .setCZN t _ _))
  | lsrAcc => exact touchesOwn_acc "LSR" rfl (ensures_next (.shiftA s _))
  | lsrZp _ | lsrZpX _ | lsrAbs _ | lsrAbsX _ =>
    exact touchesOwn "LSR" (ensures_modifyOperand .spoilCZN (fun t _ => .setCZN t _ _))
  | rolAcc => exact touchesOwn_acc "ROL" rfl (ensures_next (.shiftA s _))
  | rolZp _ | rolZpX _ | rolAbs _ | rolAbsX _ =>
    exact touchesOwn "ROL" (ensures_modifyOperand .spoilCZN (fun t _ => .setCZN t _ _))
  | rorAcc => exact touchesOwn_acc "ROR" rfl (ensures_next (.shiftA s _))
  | rorZp _ | rorZpX _ | rorAbs _ | rorAbsX _ =>
    exact touchesOwn "ROR" (ensures_modifyOperand .spoilCZN (fun t _ => .setCZN t _ _))
  | bcc _ => exact touchesOwn "BCC" (ensures_next (.branch s _ _))
  | bcs _ => exact touchesOwn "BCS" (ensures_next (.branch s _ _))
  | beq _ => exact touchesOwn "BEQ" (ensures_next (.branch s _ _))
  | bmi _ => exact touchesOwn "BMI" (ensures_next (.branch s _ _))
  | bne _ => exact touchesOwn "BNE" (ensures_next (.branch s _ _))
  | bpl _ => exact touchesOwn "BPL" (ensures_next (.branch s _ _))
  | bvc _ => exact touchesOwn "BVC" (ensures_next (.branch s _ _))
  | bvs _ => exact touchesOwn "BVS" (ensures_next (.branch s _ _))
  | jmpAbs _ => exact touchesOwn "JMP" (ensures_next (.setPc s _))
  | jmpInd _ => exact touchesOwn "JMP" (ensures_jumpThrough _)
  | jsr _ => exact touchesOwn "JSR" (ensures_next (.callSubroutine s _ _))
  | rts => exact touchesOwn "RTS" (ensures_next (.returnFromSubroutine s _))
  | pha => exact touchesOwn "PHA" (ensures_next (.stackUse (.push _ _)))
  | php => exact touchesOwn "PHP" (ensures_next (.stackUse (.push _ _)))
  | pla => exact touchesOwn "PLA" (ensures_next (.pullA s _))
  | plp => exact touchesOwn "PLP" (ensures_next (.pullFlags s _))
  | clc => exact touchesOwn "CLC" (ensures_next (.setCarry s _))
  | sec => exact touchesOwn "SEC" (ensures_next (.setCarry s _))
  | cli => exact touchesOwn "CLI" (ensures_next (.setInterrupt s _))
  | sei => exact touchesOwn "SEI" (ensures_next (.setInterrupt s _))
  | cld => exact touchesOwn "CLD" (ensures_next (.setDecimal s _))
  | sed => exact touchesOwn "SED" (ensures_next (.setDecimal s _))
  | clv => exact touchesOwn "CLV" (ensures_next (.setOverflow s _))
  | brk => exact touchesOwn "BRK" (ensures_enterInterrupt .spoilPc (.refl []))
  | rti => exact touchesOwn "RTI" (ensures_next (.returnFromInterrupt s))
  | nop => exact touchesOwn_nil (ensures_next (.refl [] s))

end Sys2Proof.StateFamily

/-! SUPPORT. What every step keeps: the memories, the control invariant, and, but for the call of `reset()`, the run state
unless it goes from Running to Error (10_state.md R22, R30, R34, R41 to R44; 60_exceptions.md R351, R367). -/

namespace Sys2Proof.StateFamily

open Sys2Proof Sys2Proof.Machine Sys2Proof.Claims

/-- The two invariants of a state hold in `t` if they hold in `s`. -/
structure KeepsInvariants (s t : State) : Prop where
  memories : s.MemoriesCanonical → t.MemoriesCanonical
  control : s.ControlInvariant → t.ControlInvariant

/-- What a step other than `reset()` keeps. -/
structure StepKeeps (s t : State) : Prop extends KeepsInvariants s t where
  runState : t.runState = s.runState ∨ s.runState = .running ∧ t.runState = .error

namespace StepKeeps

theorem trans {s t u : State} (h : StepKeeps s t) (h' : StepKeeps t u) : StepKeeps s u where
  memories := h'.memories ∘ h.memories
  control := h'.control ∘ h.control
  runState := by
    rcases h.runState with ht | ⟨hs, ht⟩ <;> rcases h'.runState with hu | ⟨ht', hu⟩
    · exact .inl (hu.trans ht)
    · exact .inr ⟨ht ▸ ht', hu⟩
    · exact .inr ⟨hs, hu.trans ht⟩
    · exact .inr ⟨hs, hu⟩

theorem ensures_trans {s t : State} {r : Result} (h : StepKeeps s t) (hr : Ensures r (StepKeeps t)) :
    Ensures r (StepKeeps s) := hr.imp (fun _ => h.trans)

/-- A change that leaves the memories, the CPU's control state and PPU Control1. -/
theorem of_eq {s t : State} (memories : s.MemoriesCanonical → t.MemoriesCanonical) (p : t.p = s.p)
    (ctrl1 : t.ppu.ctrl1 = s.ppu.ctrl1) (penalty : t.penalty = s.penalty) (stackFault : t.stackFault = s.stackFault)
    (busFault : t.busFault = s.busFault) (runState : t.runState = s.runState) : StepKeeps s t where
  memories := memories
  control := by
    rw [State.ControlInvariant, State.ControlInvariant, Ppu.sprSize, Ppu.sprSize, p, ctrl1, penalty, stackFault, busFault]
    exact id
  runState := .inl runState

theorem refl (s : State) : StepKeeps s s := of_eq id rfl rfl rfl rfl rfl rfl

theorem of_busEffect {s t : State} (h : BusEffect s t) : StepKeeps s t where
  memories := h.memories
  control := fun ⟨hb, hspr, hlocal⟩ => by
    refine ⟨?_, h.sprSize hspr, ?_⟩ <;> rw [h.frame]
    · exact hb
    · exact hlocal
  runState := .inl (by rw [h.frame])

end StepKeeps

/-! The run loop (60_exceptions.md R353 to R356). -/

theorem beginInstr_keeps (n : Nat) (s : State) : StepKeeps s (beginInstr n s) :=
  ⟨⟨id, fun ⟨hb, hspr, _⟩ => ⟨hb, hspr, rfl, rfl, rfl⟩⟩, .inl rfl⟩

theorem endRun_keeps (n : Nat) (s : State) : StepKeeps s (endRun n s) := .of_eq id rfl rfl rfl rfl rfl rfl

/-- What the end of an instruction or entry changes: what is local to it, and the record of the `run` call. -/
theorem settle_frame (r : Option RunCall) (cost : Nat) (t : State) :
    settle r cost t = { t with
      penalty := 0, stackFault := false, busFault := false, draws := (settle r cost t).draws, run := (settle r cost t).run,
      returned := (settle r cost t).returned } := by
  unfold settle endRun
  dsimp only
  split
  · split <;> rfl
  · split <;> split <;> rfl

/-- An instruction or entry of a running CPU, from the clearing of what is local to it to its end. -/
theorem settle_keeps {l : List Reg} {s t : State} (h : Touches l s t) (hrun : s.runState = .running) (r : Option RunCall)
    (cost : Nat) : StepKeeps s (settle r cost t) where
  memories hs := by
    rw [settle_frame]
    exact h.memories hs
  control := fun ⟨hb, hspr, _⟩ => by
    rw [settle_frame]
    exact ⟨h.brk.trans hb, h.sprSize hspr, rfl, rfl, rfl⟩
  runState := by
    rw [settle_frame]
    exact h.runState.imp_right (fun ht => ⟨hrun, ht⟩)

theorem ensures_onNext_settle {s b : State} {r : Result} (hb : StepKeeps s b) (hrun : b.runState = .running)
    (h : Ensures r (fun t => ∃ l, Touches l b t)) (c : Option RunCall) (cost : Nat) :
    Ensures (onNext (settle c cost) r) (StepKeeps s) :=
  hb.ensures_trans (ensures_onNext (h.imp (fun _ ⟨_, ht⟩ => settle_keeps ht hrun c cost)))

theorem fetchFailed_keeps {s : State} (hrun : s.runState = .running) (r : Option RunCall) (e : FetchStop) :
    Ensures (fetchFailed r e s) (StepKeeps s) := by
  cases e with
  | refused => rintro _ ⟨⟩
  | busFault =>
    exact ensures_next (settle_keeps ((Touches.spoilPc s).trans (Touches.busError _).widen) hrun r 0)

theorem undefinedOpcode_keeps {s : State} (hrun : s.runState = .running) (r : Option RunCall) :
    StepKeeps s (undefinedOpcode r s) := ⟨⟨id, id⟩, .inr ⟨hrun, rfl⟩⟩

theorem runOne_keeps {s : State} (hrun : s.runState = .running) (r : Option RunCall) :
    Ensures (runOne r s) (StepKeeps s) := by
  unfold runOne
  split
  · exact fetchFailed_keeps hrun r _
  split
  · exact ensures_next (undefinedOpcode_keeps hrun r)
  split
  · exact ensures_next (endRun_keeps _ s)
  split
  · exact fetchFailed_keeps hrun r _
  split
  · exact ensures_next (undefinedOpcode_keeps hrun r)
  · exact ensures_onNext_settle (beginInstr_keeps _ s) hrun
      ((exec_touchesOwn _ _).imp (fun _ ⟨l, ht, _⟩ => ⟨l, ht⟩)) r _

theorem nmiEntry_touches (s : State) : Ensures (nmiEntry s) (fun t => ∃ l, Touches l s t) :=
  (ensures_enterInterrupt .spoilNmi .countNmi).imp (fun _ ht => ⟨_, ht⟩)

theorem irqEntry_touches (s : State) : Ensures (irqEntry s) (fun t => ∃ l, Touches l s t) :=
  (ensures_enterInterrupt .spoilPc (.refl [])).imp (fun _ ht => ⟨_, ht⟩)

theorem setNmiPending_keeps (b : Bool) (s : State) : StepKeeps s { s with nmiPending := b } :=
  .of_eq id rfl rfl rfl rfl rfl rfl

theorem deliverNmi_keeps {s : State} (hrun : s.runState = .running) (r : Option RunCall) :
    Ensures (deliverNmi r s) (StepKeeps s) :=
  ensures_onNext_settle ((setNmiPending_keeps false s).trans (beginInstr_keeps 0 _)) hrun (nmiEntry_touches _) r _

theorem continueRun_keeps (c : RunCall) (s : State) : Ensures (continueRun c s) (StepKeeps s) := by
  unfold continueRun
  split
  · exact ensures_next (endRun_keeps _ s)
  · exact runOne_keeps (not_not.mp ‹_›) _

theorem singleStep_keeps (s : State) : Ensures (singleStep s) (StepKeeps s) := by
  unfold singleStep
  split
  · exact ensures_next (endRun_keeps _ s)
  split
  · exact deliverNmi_keeps (not_not.mp ‹_›) none
  · exact runOne_keeps (not_not.mp ‹_›) none

theorem startRun_keeps (budget : Nat) (s : State) : Ensures (startRun budget s) (StepKeeps s) := by
  unfold startRun
  split
  · exact ensures_next (endRun_keeps _ s)
  split
  · exact deliverNmi_keeps (not_not.mp ‹_›) _
  · exact ensures_next (.of_eq id rfl rfl rfl rfl rfl rfl)

/-! The calls of the host (70_reset_and_hazards.md R404). -/

theorem returning_keeps (v : Returned) (s : State) : StepKeeps s (returning v s) := .of_eq id rfl rfl rfl rfl rfl rfl

theorem hostIrq_keeps (s : State) : Ensures (hostIrq s) (StepKeeps s) := by
  unfold hostIrq
  split
  · exact ensures_next (returning_keeps _ s)
  · rename_i h
    exact ensures_onNext_settle (beginInstr_keeps 0 s) (not_not.mp (fun hr => h (.inl hr))) (irqEntry_touches _) none _

theorem hostNmi_keeps (s : State) : Ensures (hostNmi s) (StepKeeps s) := by
  unfold hostNmi
  split
  · exact ensures_next (returning_keeps _ s)
  · exact ensures_onNext_settle (beginInstr_keeps 0 s) (not_not.mp ‹_›) (nmiEntry_touches _) none _

theorem hostRead_keeps {a : Access Byte} {s : State} (h : ∀ v t, a = .ok v t → BusEffect s t) :
    Ensures (hostRead a s) (StepKeeps s) := by
  cases a with
  | ok v t => exact ensures_next ((StepKeeps.of_busEffect (h v t rfl)).trans (returning_keeps _ t))
  | failed f => exact ensures_next (returning_keeps _ s)
  | fatal => rintro _ ⟨⟩

theorem hostWrite_keeps {a : Access Unit} {s : State} (h : ∀ t, a = .ok () t → BusEffect s t) :
    Ensures (hostWrite a s) (StepKeeps s) := by
  cases a with
  | ok v t => exact ensures_next ((StepKeeps.of_busEffect (h t rfl)).trans (returning_keeps _ t))
  | failed f => exact ensures_next (returning_keeps _ s)
  | fatal => rintro _ ⟨⟩

/-- A call of the mapper may replace the injected cartridge by a well-formed one. -/
theorem hostMapper_keeps {op : Cartridge → Result} {s : State} (h : ∀ c, s.cart = some c → Ensures (op c) (StepKeeps s)) :
    Ensures (hostMapper op s) (StepKeeps s) := by
  unfold hostMapper
  split
  · exact ensures_next (returning_keeps _ s)
  · exact h _ ‹_›

/-- `update()` writes Status bits, the frame and `nmi_pending` (47_ppu_rendering.md R271). -/
theorem updateFrame_keeps (s : State) : Ensures (updateFrame s) (StepKeeps s) := by
  unfold updateFrame
  split
  · rintro _ ⟨⟩
  split
  · rintro _ ⟨⟩
  · refine ensures_next ?_
    split <;> exact .of_eq id rfl rfl rfl rfl rfl rfl

/-- What is flashed lands inside the cartridge's ROM (49_mapper.md R326). -/
theorem flashFixed_wf {c c' : Cartridge} {addr : Nat} {buffer : List Byte} (hc : c.wf) (hlow : Config.fixedBase ≤ addr)
    (hhigh : addr ≤ 0xFFFF) (h : c.flashFixed addr buffer = .ok c') : c'.wf := by
  obtain ⟨hpages, hrom, hvrom⟩ := hc
  unfold Cartridge.flashFixed at h
  split at h
  · cases h
  · injection h with h
    subst h
    refine ⟨hpages, Memory.wfIn_writeAll ?_ hrom, hvrom⟩
    simp only [Cartridge.lastPage, Config.romPageSize, Config.fixedBase] at *
    omega

theorem flashSwitchable_wf {c : Cartridge} {addr : Nat} (buffer : List Byte) (hc : c.wf) (hlow : Config.romBase ≤ addr)
    (hhigh : addr < Config.fixedBase) : (c.flashSwitchable addr buffer).wf := by
  obtain ⟨hpages, hrom, hvrom⟩ := hc
  refine ⟨hpages, Memory.wfIn_writeAll ?_ hrom, hvrom⟩
  simp only [Cartridge.flashSwitchable, List.length_take, Config.romPageSize, Config.romBase, Config.fixedBase] at *
  omega

theorem flash_wf {c : Cartridge} (firstPart : Bool) (addr : Nat) (buffer : List Byte) (hc : c.wf) :
    (c.flash firstPart addr buffer).2.wf := by
  unfold Cartridge.flash
  split
  · exact hc
  obtain ⟨hlow, hhigh⟩ := not_or.mp ‹_›
  split
  · have hfirst : (c.flashSwitchable addr buffer).wf := flashSwitchable_wf buffer hc (Nat.not_lt.mp hlow) ‹_›
    split
    · exact hfirst
    split
    · exact flashFixed_wf hfirst le_rfl (by decide) ‹_›
    · cases firstPart
      · exact hc
      · exact hfirst
  · split
    · exact flashFixed_wf hc (Nat.not_lt.mp ‹_›) (Nat.not_lt.mp hhigh) ‹_›
    · exact hc

theorem setCart_keeps {s : State} {c : Cartridge} (hc : s.MemoriesCanonical → c.wf) :
    StepKeeps s { s with cart := some c } := by
  refine .of_eq (fun hs => ?_) rfl rfl rfl rfl rfl rfl
  obtain ⟨hram, hnt, hpal, hspr, _, hcalls⟩ := id hs
  refine ⟨hram, hnt, hpal, hspr, ?_, hcalls⟩
  rintro _ ⟨⟩
  exact hc hs

theorem hostFlash_keeps {s : State} {c : Cartridge} (hc : s.cart = some c) (addr : Nat) (buffer : List Byte) :
    StepKeeps s (hostFlash addr buffer c s) :=
  ((StepKeeps.of_busEffect (.drawn s)).trans
    (setCart_keeps (fun hs => flash_wf _ addr buffer (hs.2.2.2.2.1 c hc)))).trans (returning_keeps _ _)

theorem hostReadVROM_keeps (addr : Nat) (c : Cartridge) (s : State) : Ensures (hostReadVROM addr c s) (StepKeeps s) := by
  unfold hostReadVROM
  split
  · rintro _ ⟨⟩
  · exact ensures_next (returning_keeps _ s)

/-- Every call of the host but `reset()`, and `injectCartridge`, whose cartridge the call list answers for. -/
theorem hostCall_keeps {call : HostCall} {s : State} (hreset : call ≠ .reset)
    (hinject : ∀ c, call ≠ .injectCartridge c) : Ensures (hostCall call s) (StepKeeps s) := by
  cases call with
  | run budget => exact startRun_keeps budget s
  | reset => exact absurd rfl hreset
  | irq => exact hostIrq_keeps s
  | nmi => exact hostNmi_keeps s
  | update => exact ensures_onNext ((updateFrame_keeps s).imp (fun t ht => ht.trans (returning_keeps _ t)))
  | state | snapshot | counters | readSpriteMem _ | getMode => exact ensures_next (returning_keeps _ s)
  | readMem a => exact hostRead_keeps (fun _ _ => memRead_busEffect)
  | writeMem a v => exact hostWrite_keeps (fun _ => memWrite_busEffect)
  | readVideoMem a => exact hostRead_keeps (fun _ _ => vidRead_busEffect)
  | writeVideoMem a v => exact hostWrite_keeps (fun _ => vidWrite_busEffect)
  | writeSpriteMem i v =>
    exact ensures_next ((StepKeeps.of_busEffect (sprWrite_busEffect i v s)).trans (returning_keeps _ _))
  | generateNMI => exact ensures_next ((setNmiPending_keeps true s).trans (returning_keeps _ _))
  | injectCartridge c => exact absurd rfl (hinject c)
  | setMode m => exact ensures_next (.of_eq id rfl rfl rfl rfl rfl rfl)
  | flash addr buffer => exact hostMapper_keeps (fun c hc => ensures_next (hostFlash_keeps hc addr buffer))
  | readROM _ | readRAM _ | writeRAM _ _ => exact hostMapper_keeps (fun _ _ => ensures_next (returning_keeps _ s))
  | readVROM addr => exact hostMapper_keeps (fun c _ => hostReadVROM_keeps addr c s)

/-- The host's call list loses its first entry. -/
theorem dropCall_keeps {s : State} {call : HostCall} {rest : List HostCall} (hcalls : s.calls = call :: rest) :
    StepKeeps s { s with calls := rest } := by
  refine .of_eq (fun hs => ?_) rfl rfl rfl rfl rfl rfl
  obtain ⟨hram, hnt, hpal, hspr, hcart, hinject⟩ := hs
  exact ⟨hram, hnt, hpal, hspr, hcart, fun c hc => hinject c (hcalls ▸ List.mem_cons_of_mem call hc)⟩

theorem injectCartridge_keeps {s : State} {c : Cartridge} {rest : List HostCall}
    (hcalls : s.calls = .injectCartridge c :: rest) :
    StepKeeps s (returning .nothing { s with calls := rest, cart := some c }) := by
  refine .of_eq (fun hs => ?_) rfl rfl rfl rfl rfl rfl
  obtain ⟨hram, hnt, hpal, hspr, hcart, hinject⟩ := (dropCall_keeps hcalls).memories hs
  obtain ⟨_, _, _, _, _, hinject'⟩ := hs
  refine ⟨hram, hnt, hpal, hspr, ?_, hinject⟩
  rintro _ ⟨⟩
  exact hinject' c (hcalls ▸ List.mem_cons_self)

theorem listedCall_keeps {s : State} {call : HostCall} {rest : List HostCall} (hcalls : s.calls = call :: rest)
    (hreset : call ≠ .reset) : Ensures (hostCall call { s with calls := rest }) (StepKeeps s) := by
  by_cases hinject : ∃ c, call = .injectCartridge c
  · obtain ⟨c, rfl⟩ := hinject
    exact ensures_next (injectCartridge_keeps hcalls)
  · exact (dropCall_keeps hcalls).ensures_trans (hostCall_keeps hreset (not_exists.mp hinject))

/-- What `reset()` leaves (70_reset_and_hazards.md R400): the registers, what the two vector reads do, then Running, or Error
if one of them fails. -/
theorem resetCpu_effect (s : State) :
    Ensures (resetCpu s) (fun t => ∃ u, BusEffect (resetRegisters s) u ∧ t.runState ≠ .halted ∧
      t = { u with pc := t.pc, runState := t.runState, busFault := false, draws := t.draws, returned := .nothing }) := by
  refine ensures_onNext (fun r hr => ?_)
  rcases readThen_next hr with ⟨_, v, hv, hr⟩ | ⟨_, _, rfl⟩
  · rcases readThen_next hr with ⟨_, u, hu, ⟨⟩⟩ | ⟨_, _, rfl⟩
    · exact ⟨u, (memRead_busEffect hv).trans (memRead_busEffect hu), nofun, rfl⟩
    · exact ⟨v, memRead_busEffect hv, nofun, rfl⟩
  · exact ⟨_, .refl _, nofun, rfl⟩

theorem resetCpu_keeps (s : State) : Ensures (resetCpu s) (fun t => KeepsInvariants s t ∧ t.runState ≠ .halted) := by
  refine (resetCpu_effect s).imp (fun t ⟨u, hu, hhalted, ht⟩ => ⟨⟨fun hs => ?_, ?_⟩, hhalted⟩)
  · rw [ht]
    exact hu.memories hs
  · rintro ⟨-, hspr, -, hstack, -⟩
    rw [ht]
    refine ⟨?_, hu.sprSize hspr, ?_, ?_, rfl⟩ <;> (dsimp only; rw [hu.frame])
    · rfl
    · rfl
    · exact hstack

end Sys2Proof.StateFamily

/-! The statements of the state family (10_state.md): what every step keeps, what an instruction leaves unchanged, and the
state after reset. -/

namespace Sys2Proof.StateFamily

open Sys2Proof Sys2Proof.Machine Sys2Proof.Claims

/-- One step: it keeps both invariants, and the run state too as `StepKeeps` says, unless it is the call of `reset()`, which
does not leave the CPU Halted. -/
theorem step_keeps {s t : State} (h : step s = .next t) :
    StepKeeps s t ∨ (s.run = none ∧ ∃ rest, s.calls = .reset :: rest) ∧ KeepsInvariants s t ∧ t.runState ≠ .halted := by
  unfold step stepMachine at h
  split at h
  · exact .inl (continueRun_keeps _ s t h)
  · rename_i hrun
    split at h
    · rename_i call rest hcalls
      by_cases hreset : call = .reset
      · subst hreset
        have hdrop := dropCall_keeps hcalls
        obtain ⟨hkeep, hhalted⟩ := resetCpu_keeps _ t h
        exact .inr ⟨⟨hrun, rest, hcalls⟩,
          ⟨hkeep.memories ∘ hdrop.memories, hkeep.control ∘ hdrop.control⟩, hhalted⟩
      · exact .inl (listedCall_keeps hcalls hreset t h)
    · exact .inl (singleStep_keeps s t h)

theorem step_keepsInvariants {s t : State} (h : step s = .next t) : KeepsInvariants s t :=
  (step_keeps h).elim StepKeeps.toKeepsInvariants (fun hreset => hreset.2.1)

/-- `run(budget)` of a CPU that is not Running (60_exceptions.md R356, R367). -/
theorem step_run_not_running {s : State} {budget : Nat} {rest : List HostCall} (hrun : s.run = none)
    (hcalls : s.calls = .run budget :: rest) (hstate : s.runState ≠ .running) :
    step s = .next { s with calls := rest, returned := .clocks 0 } := by
  simp only [step, stepMachine, hrun, hcalls, hostCall, startRun, endRun]
  rw [if_pos hstate]

/-- An instruction leaves a register of which it is no listed writer. -/
theorem exec_same {i : Instr} {s t : State} (h : exec i s = .next t) {r : Reg} (hm : mnemonicOf i ∉ r.writers)
    (hmode : r = .a → modeOf i ≠ .accumulator) : r.Same s t := by
  obtain ⟨l, ht, hl⟩ := exec_touchesOwn i s t h
  refine ht.same r (fun hr => ?_)
  rcases hl r hr with hlisted | ⟨ha, hacc⟩
  · exact hm hlisted
  · exact hmode ha hacc

/-- Settles O43: a step writes memory only by bus accesses, pushes, `flash` and `injectCartridge`. -/
theorem everyStepKeepsMemoryCanonical : Obligations.EveryStepKeepsMemoryCanonical :=
  fun _ _ hs h => (step_keepsInvariants h).memories hs

/-- Settles O44: P is written without B, Control1 never with bit 5, and the end of an instruction or entry clears what is
local to it. -/
theorem everyStepKeepsTheControlInvariant : Obligations.EveryStepKeepsTheControlInvariant :=
  fun _ _ hs h => (step_keepsInvariants h).control hs

/-- Settles O41: but for `reset()`, only an instruction or entry of a running CPU writes the run state, and only to Error. -/
theorem onlyResetLeavesErrorAndNothingEntersHalted : Obligations.OnlyResetLeavesErrorAndNothingEntersHalted := by
  intro s t h
  refine ⟨fun hs => ?_, fun hs => ?_, fun budget rest hrun hcalls hs => ?_⟩
  · rcases step_keeps h with hkeep | ⟨hreset, _⟩
    · exact .inl (hkeep.runState.resolve_right (fun hr => hs hr.1))
    · exact .inr hreset
  · rcases step_keeps h with hkeep | ⟨_, _, hhalted⟩
    · rcases hkeep.runState with ht | ⟨_, ht⟩
      · exact ht ▸ hs
      · exact ht ▸ nofun
    · exact hhalted
  · rw [step_run_not_running hrun hcalls hs] at h
    injection h with h
    exact h.symm

/-- Settles O45: `Reg.writers` lists R23's writers. -/
theorem flagsAreWrittenOnlyByTheListedInstructions : Obligations.FlagsAreWrittenOnlyByTheListedInstructions := by
  intro i s t h
  obtain ⟨_, ht, _⟩ := exec_touchesOwn i s t h
  exact ⟨fun hm => exec_same h (r := .c) hm nofun,
    fun hm => ⟨exec_same h (r := .z) hm nofun, exec_same h (r := .n) hm nofun⟩,
    fun hm => exec_same h (r := .i) hm nofun, fun hm => exec_same h (r := .d) hm nofun,
    fun hm => exec_same h (r := .v) hm nofun, ht.brk⟩

/-- Settles O46: an accumulator form writes A whatever its mnemonic. -/
theorem registersAreWrittenOnlyByTheirInstructions : Obligations.RegistersAreWrittenOnlyByTheirInstructions := by
  intro i s t h
  exact ⟨fun hm hmode => exec_same h (r := .a) hm (fun _ => hmode), fun hm => exec_same h (r := .x) hm nofun,
    fun hm => exec_same h (r := .y) hm nofun, fun hm => exec_same h (r := .s) hm nofun,
    fun hm => exec_same h (r := .pc) hm nofun⟩

theorem reset_memoriesCanonical : State.reset.MemoriesCanonical := by
  refine ⟨Memory.wfIn_nil _, Memory.wfIn_nil _, Memory.wfIn_nil _, Memory.wfIn_nil _, ?_, nofun⟩
  rintro _ ⟨⟩
  exact ⟨by decide, Memory.wfIn_nil _, Memory.wfIn_nil _⟩

/-- Settles O35: the fields as the model writes them, and the vector's two bytes as `readROM` finds them unflashed. -/
theorem resetStateHasWhatTheSpecGives : Obligations.ResetStateHasWhatTheSpecGives := by
  have hvector : VectorIs State.reset 0xFFFC (loByte State.reset.pc) (hiByte State.reset.pc) :=
    ⟨Cartridge.blank, rfl, rfl, rfl⟩
  have hcontrol : State.reset.ControlInvariant := ⟨rfl, rfl, rfl, rfl, rfl⟩
  exact ⟨rfl, rfl, rfl, rfl, rfl, rfl, rfl, rfl, hvector, reset_memoriesCanonical, hcontrol, nofun⟩

end Sys2Proof.StateFamily

/-! SUPPORT. What a step of the CPU does where an instruction byte cannot be fetched (20_memory.md R77; 48_bus.md R300): every
fact about one turn of the `run` loop is said for a `run` call in progress and for the host's single step at once. -/

namespace Sys2Proof.MemoryFamily

open Sys2Proof Sys2Proof.Machine Sys2Proof.Claims

theorem step_idle {s : State} (h : Idle s) : step s = runOne none s := by
  obtain ⟨hstate, hrun, hcalls, hnmi⟩ := h
  simp [step, stepMachine, singleStep, hstate, hrun, hcalls, hnmi]

theorem step_running {s : State} {c : RunCall} (hrun : s.run = some c) (hstate : s.runState = .running) :
    step s = runOne (some c) s := by
  simp [step, stepMachine, continueRun, hrun, hstate]

theorem fetchByte_refused {a : Addr} (h1 : 0x2000 ≤ a.toNat) (h2 : a.toNat < 0x8000) (s : State) :
    fetchByte a s = .error .refused := by
  rcases windowOf_cases a with ⟨_, _⟩ | ⟨_, _, hw⟩ | ⟨_, _, hw⟩ | ⟨_, _, hw⟩ | ⟨_, _⟩
  · omega
  · simp only [fetchByte, hw]
  · simp only [fetchByte, hw]
  · simp only [fetchByte, hw]
  · omega

theorem fetchByte_ram {a : Addr} (h : a.toNat < 0x2000) (s : State) : fetchByte a s = .ok (s.readRam a) := by
  simp only [fetchByte, windowOf_ram h]

theorem fetchByte_noCart {a : Addr} {s : State} (h : 0x8000 ≤ a.toNat) (hc : s.cart = none) :
    fetchByte a s = .error .busFault := by
  simp only [fetchByte, windowOf_mapperRom h, mapperRead, hc]

/-- The bytes before the refused one lie below 0x8000 as well, so none of them can end the fetch in a BusFault: the bound on
`k` keeps them from reaching back around 0x0000 into ROM. -/
theorem fetchBytes_refused {n k : Nat} {a : Addr} (s : State) (hkn : k < n) (hk : k ≤ 0x2000)
    (h1 : 0x2000 ≤ (a + BitVec.ofNat 16 k).toNat) (h2 : (a + BitVec.ofNat 16 k).toNat < 0x8000) :
    fetchBytes n a s = .error .refused := by
  induction k generalizing n a with
  | zero =>
    obtain ⟨n, rfl⟩ := Nat.exists_eq_succ_of_ne_zero (Nat.ne_zero_of_lt hkn)
    rw [BitVec.add_zero] at h1 h2
    simp only [fetchBytes, fetchByte_refused h1 h2]
  | succ k ih =>
    obtain ⟨n, rfl⟩ := Nat.exists_eq_succ_of_ne_zero (Nat.ne_zero_of_lt hkn)
    have ha : a.toNat < 0x8000 := by
      simp only [BitVec.toNat_add, BitVec.toNat_ofNat] at h1 h2
      omega
    by_cases hram : a.toNat < 0x2000
    · rw [Nat.add_comm k 1, BitVec.ofNat_add, ← BitVec.add_assoc] at h1 h2
      simp only [fetchBytes, fetchByte_ram hram, ih (Nat.lt_of_succ_lt_succ hkn) (Nat.le_of_succ_le hk) h1 h2]
    · simp only [fetchBytes, fetchByte_refused (Nat.not_lt.mp hram) ha]

theorem operandBytes_le_two (m : Mode) : m.operandBytes ≤ 2 := by
  cases m <;> decide

theorem runOne_refused_opcode {s : State} (h1 : 0x2000 ≤ s.pc.toNat) (h2 : s.pc.toNat < 0x8000) (r : Option RunCall) :
    runOne r s = .refused .fetchRegion := by
  simp only [runOne, fetchByte_refused h1 h2, fetchFailed]

theorem runOne_refused_operand {s : State} {op : Byte} {row : OpRow} {k : Nat} {r : Option RunCall}
    (hop : fetchByte s.pc s = .ok op) (hrow : opcodeRow op = some row) (hbudget : overBudget r row.cycles = false)
    (hk : 1 ≤ k) (hk' : k ≤ row.mode.operandBytes) (h1 : 0x2000 ≤ (s.pc + BitVec.ofNat 16 k).toNat)
    (h2 : (s.pc + BitVec.ofNat 16 k).toNat < 0x8000) : runOne r s = .refused .fetchRegion := by
  obtain ⟨j, rfl⟩ : ∃ j, k = 1 + j := ⟨k - 1, by omega⟩
  rw [BitVec.ofNat_add, ← BitVec.add_assoc] at h1 h2
  have hlen := operandBytes_le_two row.mode
  have hoperands := fetchBytes_refused s (n := row.mode.operandBytes) (by omega) (by omega) h1 h2
  simp only [runOne, hop, hrow, hbudget, hoperands, fetchFailed, Bool.false_eq_true, if_false]

/-- A BusFault ends a `run` call in progress as it ends the single step: the CPU is in Error, and the clocks are free
(log 14). -/
theorem settle_busError (r : Option RunCall) (cost : Nat) (t : State) :
    ∃ draws clocks, settle r cost t.busError = { t with
      runState := .error, penalty := 0, stackFault := false, busFault := false, draws := draws, run := none
      returned := .clocks clocks } := by
  cases r with
  | none => exact ⟨_, _, rfl⟩
  | some c => exact ⟨_, _, rfl⟩

theorem runOne_noCart {s : State} (h : 0x8000 ≤ s.pc.toNat) (hc : s.cart = none) (r : Option RunCall) :
    ∃ pc draws clocks, runOne r s = .next { s with
      pc := pc, runState := .error, penalty := 0, stackFault := false, busFault := false, draws := draws, run := none
      returned := .clocks clocks } := by
  obtain ⟨draws, clocks, hsettle⟩ := settle_busError r 0 s.spoilPc
  refine ⟨s.spoilPc.pc, draws, clocks, ?_⟩
  simp only [runOne, fetchByte_noCart h hc, fetchFailed, hsettle]
  rfl

/-- Settles O38: the opcode byte and the operand bytes are refused by their windows, and without a cartridge the fetch ends in
a BusFault. -/
theorem instructionFetchFromTheUndecodedRegionIsRefused :
    Obligations.InstructionFetchFromTheUndecodedRegionIsRefused := by
  refine ⟨fun s hidle h1 h2 => ?_, fun s c hrun hstate h1 h2 => ?_, fun s op row k hidle hop hrow hk hk' h1 h2 => ?_,
    fun s c op row k hrun hstate hop hrow hbudget hk hk' h1 h2 => ?_, fun s hready h hc => ?_⟩
  · rw [step_idle hidle]
    exact runOne_refused_opcode h1 h2 none
  · rw [step_running hrun hstate]
    exact runOne_refused_opcode h1 h2 (some c)
  · rw [step_idle hidle]
    exact runOne_refused_operand hop hrow rfl hk hk' h1 h2
  · have hfits : overBudget (some c) row.cycles = false := decide_eq_false (Nat.not_lt.mpr hbudget)
    rw [step_running hrun hstate]
    exact runOne_refused_operand hop hrow hfits hk hk' h1 h2
  · rcases hready with hidle | ⟨⟨c, hrun⟩, hstate⟩
    · rw [step_idle hidle]
      exact runOne_noCart h hc none
    · rw [step_running hrun hstate]
      exact runOne_noCart h hc (some c)

end Sys2Proof.MemoryFamily

/-! SUPPORT. The operand bytes of an instruction and the opcode table: what the decoder and the encoder agree on, said once for
every instruction (30_encoding.md R100, R101, R116, R117, R121). -/

namespace Sys2Proof.EncodingFamily

open Sys2Proof Sys2Proof.Machine Sys2Proof.Claims Sys2Proof.StateFamily

@[simp] theorem addrOf_hiByte_loByte (a : Addr) : addrOf (hiByte a) (loByte a) = a := by
  rw [addrOf, hiByte, loByte, BitVec.extractLsb'_append_extractLsb'_eq_extractLsb' (by decide)]
  exact BitVec.extractLsb'_eq_self

@[simp] theorem loByte_addrOf (hi lo : Byte) : loByte (addrOf hi lo) = lo := BitVec.extractLsb'_append_eq_right

@[simp] theorem hiByte_addrOf (hi lo : Byte) : hiByte (addrOf hi lo) = hi := BitVec.extractLsb'_append_eq_left

section
open Laws.TableRow

/-- The law of the opcode table for every instruction at once. -/
theorem tableRow (i : Instr) : Laws.TableRow.Statement i := by
  cases i
  exacts [ldaImm _, ldaZp _, ldaZpX _, ldaAbs _, ldaAbsX _, ldaAbsY _, ldaIndX _, ldaIndY _, ldxImm _, ldxZp _, ldxZpY _,
    ldxAbs _, ldxAbsY _, ldyImm _, ldyZp _, ldyZpX _, ldyAbs _, ldyAbsX _, staZp _, staZpX _, staAbs _, staAbsX _,
    staAbsY _, staIndX _, staIndY _, stxZp _, stxZpY _, stxAbs _, styZp _, styZpX _, styAbs _, tax, tay, txa, tya, tsx, txs,
    adcImm _, adcZp _, adcZpX _, adcAbs _, adcAbsX _, adcAbsY _, adcIndX _, adcIndY _, sbcImm _, sbcZp _, sbcZpX _,
    sbcAbs _, sbcAbsX _, sbcAbsY _, sbcIndX _, sbcIndY _, andImm _, andZp _, andZpX _, andAbs _, andAbsX _, andAbsY _,
    andIndX _, andIndY _, oraImm _, oraZp _, oraZpX _, oraAbs _, oraAbsX _, oraAbsY _, oraIndX _, oraIndY _, eorImm _,
    eorZp _, eorZpX _, eorAbs _, eorAbsX _, eorAbsY _, eorIndX _, eorIndY _, cmpImm _, cmpZp _, cmpZpX _, cmpAbs _,
    cmpAbsX _, cmpAbsY _, cmpIndX _, cmpIndY _, cpxImm _, cpxZp _, cpxAbs _, cpyImm _, cpyZp _, cpyAbs _, bitZp _, bitAbs _,
    incZp _, incZpX _, incAbs _, incAbsX _, decZp _, decZpX _, decAbs _, decAbsX _, inx, iny, dex, dey, aslAcc, aslZp _,
    aslZpX _, aslAbs _, aslAbsX _, lsrAcc, lsrZp _, lsrZpX _, lsrAbs _, lsrAbsX _, rolAcc, rolZp _, rolZpX _, rolAbs _,
    rolAbsX _, rorAcc, rorZp _, rorZpX _, rorAbs _, rorAbsX _, bcc _, bcs _, beq _, bmi _, bne _, bpl _, bvc _, bvs _,
    jmpAbs _, jmpInd _, jsr _, rts, pha, php, pla, plp, clc, sec, cli, sei, cld, sed, clv, brk, rti, nop]

end

/-- The row of an instruction has a mode that consumes its operand bytes, and gives its base cost. -/
theorem exists_opcodeRow (i : Instr) :
    ∃ row, opcodeRow i.opcode = some row ∧ row.mode.operandBytes = i.operands.length ∧ row.cycles = i.baseCost := by
  obtain ⟨row, hrow, hlen, _, _⟩ := tableRow i
  exact ⟨row, hrow, hlen.symm, by simp only [Instr.baseCost, hrow, Option.map_some, Option.getD_some]⟩

/-- An instruction is the one its opcode byte and operand bytes stand for. Only a two-byte operand is taken apart by the encoder
and put together again by the decoder: `addrOf_hiByte_loByte` is what closes those cases. -/
theorem decodeOp_encode (i : Instr) : decodeOp i.opcode (i.operands.getD 0 0#8) (i.operands.getD 1 0#8) = some i := by
  cases i <;> simp [Instr.opcode, Instr.operands, decodeOp, decodeRow0, decodeRow1, decodeRow2, decodeRow3, decodeRow4,
    decodeRow5, decodeRow6, decodeRow7, decodeRow8, decodeRow9, decodeRowA, decodeRowB, decodeRowC, decodeRowD, decodeRowE,
    decodeRowF]

theorem decode_encode (i : Instr) (rest : List Byte) : decode (encode i ++ rest) = .ok (i, rest) := by
  obtain ⟨row, hrow, hlen, _⟩ := exists_opcodeRow i
  simp only [encode, List.cons_append, decode, hrow, hlen, List.take_left, List.drop_left, decodeOp_encode, if_true]

theorem decode_encode_self (i : Instr) : decode (encode i) = .ok (i, []) := by
  simpa only [List.append_nil] using decode_encode i []

/-- Settles O1: an instruction's row consumes exactly its operand bytes, which decode to it. -/
theorem decodeOfEncodeIsTheInstruction : Obligations.DecodeOfEncodeIsTheInstruction :=
  fun i rest _ => decode_encode i rest

/-- Instruction `i` stands for opcode byte `op` and as many of the bytes `lo`, `hi` as it has operand bytes. -/
structure StandsFor (i : Instr) (op lo hi : Byte) : Prop where
  opcode : i.opcode = op
  operands : i.operands = [lo, hi].take i.operands.length

/-- The decoder reads an instruction from no other bytes than its own: one case for each arm of the sixteen rows. -/
theorem standsFor_of_decodeOp {op lo hi : Byte} {i : Instr} (h : decodeOp op lo hi = some i) : StandsFor i op lo hi := by
  simp only [decodeOp, decodeRow0, decodeRow1, decodeRow2, decodeRow3, decodeRow4, decodeRow5, decodeRow6, decodeRow7,
    decodeRow8, decodeRow9, decodeRowA, decodeRowB, decodeRowC, decodeRowD, decodeRowE, decodeRowF] at h
  split at h <;> split at h <;> cases h
  all_goals exact ⟨BitVec.eq_of_toNat_eq ‹op.toNat = _›.symm, by simp [Instr.operands]⟩

/-- What `decode` has found when it answers an instruction. -/
theorem decode_ok {bs rest : List Byte} {i : Instr} (h : decode bs = .ok (i, rest)) :
    ∃ op operands row, bs = op :: (operands ++ rest) ∧ opcodeRow op = some row ∧ operands.length = row.mode.operandBytes ∧
      decodeOp op (operands.getD 0 0#8) (operands.getD 1 0#8) = some i := by
  unfold decode at h
  split at h
  · cases h
  split at h
  · cases h
  rename_i op tail _ row hrow
  dsimp only at h
  split at h
  · rename_i hlen
    split at h
    · cases h
    · rename_i j hop
      cases h
      exact ⟨op, tail.take row.mode.operandBytes, row, by rw [List.take_append_drop], hrow, hlen, hop⟩
  · cases h

theorem take_pair_getD {l : List Byte} (h : l.length ≤ 2) : [l.getD 0 0#8, l.getD 1 0#8].take l.length = l := by
  match l, h with
  | [], _ | [_], _ | [_, _], _ => rfl

/-- Settles O2: the decoded instruction has the opcode byte read, hence that byte's row, and so as many operand bytes as were
read. -/
theorem encodeOfDecodeIsTheBytes : Obligations.EncodeOfDecodeIsTheBytes := by
  intro bs rest i h
  obtain ⟨op, operands, row, rfl, hrow, hlen, hop⟩ := decode_ok h
  obtain ⟨rfl, hoperands⟩ := standsFor_of_decodeOp hop
  obtain ⟨row', hrow', hlen', _⟩ := exists_opcodeRow i
  obtain rfl : row' = row := Option.some.inj (hrow'.symm.trans hrow)
  have htwo : operands.length ≤ 2 := hlen ▸ MemoryFamily.operandBytes_le_two _
  rw [← hlen', ← hlen, take_pair_getD htwo] at hoperands
  rw [encode, hoperands, List.cons_append]

end Sys2Proof.EncodingFamily

/-! The undefined opcodes and the examples of the assembler table (30_encoding.md R117, R118). -/

namespace Sys2Proof.EncodingFamily

open Sys2Proof Sys2Proof.Machine Sys2Proof.Claims Sys2Proof.StateFamily

/-- The bytes without a table entry (30_encoding.md R117). -/
def undefinedBytes : List Nat := (List.range 256).filter (fun n => (opcodeRow (BitVec.ofNat 8 n)).isNone)

theorem opcodeRow_eq_none_iff (op : Byte) : opcodeRow op = none ↔ op.toNat ∈ undefinedBytes := by
  simp [undefinedBytes, op.isLt]

theorem decode_undefined {op : Byte} (h : opcodeRow op = none) (rest : List Byte) :
    decode (op :: rest) = .error (.undefinedOpcode op) := by
  simp only [decode, h]

/-- Settles O3: the list is compared with the bytes that the opcode table lacks, each looked up among the rows of its high
nibble. -/
theorem undefinedOpcodesAreThe105Bytes : Obligations.UndefinedOpcodesAreThe105Bytes := by
  refine fun op rest => ⟨?_, fun h => decode_undefined h rest⟩
  rw [opcodeRow_eq_none_iff]
  refine iff_of_eq (congrArg (op.toNat ∈ ·) ?_)
  simp only [undefinedBytes, opcodeRow_eq]
  decide

/-- Settles O4: each of the example words is its instruction's encoding. -/
theorem sampleWordsDecodeAsTheSpecEncodesThem : Obligations.SampleWordsDecodeAsTheSpecEncodesThem :=
  ⟨decode_encode_self .clc, decode_encode_self .aslAcc, decode_encode_self (.ldaImm _), decode_encode_self (.ldaZp _),
    decode_encode_self (.ldaZpX _), decode_encode_self (.ldxZpY _), decode_encode_self (.ldaAbs 0x1234#16),
    decode_encode_self (.ldaAbsX 0x1234#16), decode_encode_self (.ldaAbsY 0x1234#16),
    decode_encode_self (.jmpInd 0x1234#16), decode_encode_self (.ldaIndX _), decode_encode_self (.ldaIndY _),
    decode_encode_self (.bne _), decode_encode_self (.jsr 0x9234#16), decode_encode_self .brk, decode_encode_self .pha⟩

end Sys2Proof.EncodingFamily

/-! SUPPORT. Addresses as numbers: where the operand forms put an operand, and when indexing changes its page (30_encoding.md
R105 to R115; 20_memory.md R63). -/

namespace Sys2Proof.EncodingFamily

open Sys2Proof Sys2Proof.Machine Sys2Proof.Claims Sys2Proof.StateFamily

@[simp] theorem zext16_toNat (v : Byte) : (zext16 v).toNat = v.toNat := by
  rw [zext16, BitVec.toNat_setWidth, Nat.mod_eq_of_lt (by omega)]

theorem hiByte_toNat (a : Addr) : (hiByte a).toNat = a.toNat / 256 := by
  rw [hiByte, BitVec.extractLsb'_toNat, Nat.shiftRight_eq_div_pow]
  omega

theorem addrOf_toNat (hi lo : Byte) : (addrOf hi lo).toNat = hi.toNat * 256 + lo.toNat := by
  rw [addrOf, BitVec.toNat_append, ← Nat.shiftLeft_add_eq_or_of_lt lo.isLt, Nat.shiftLeft_eq]

theorem hiByte_zext16 (v : Byte) : hiByte (zext16 v) = 0x00#8 := by
  refine BitVec.eq_of_toNat_eq ?_
  rw [hiByte_toNat, zext16_toNat, Nat.div_eq_of_lt v.isLt, BitVec.toNat_ofNat]

theorem hiByte_bne (a b : Addr) : (hiByte a != hiByte b) = decide (a.toNat / 256 ≠ b.toNat / 256) := by
  rw [Bool.eq_iff_iff, bne_iff_ne, decide_eq_true_iff, ← hiByte_toNat, ← hiByte_toNat, BitVec.toNat_ne_iff_ne]

theorem indexed_ea_toNat (base : Addr) (k : Byte) : (indexed base k).ea.toNat = (base.toNat + k.toNat) % 65536 := by
  rw [indexed, BitVec.toNat_add, zext16_toNat]

theorem indexed_crossed (base : Addr) (k : Byte) :
    (indexed base k).crossed = decide ((indexed base k).ea.toNat / 256 ≠ base.toNat / 256) := hiByte_bne _ _

theorem readRam_zext16 (z : Byte) (s : State) : s.readRam (zext16 z) = s.ram.read z.toNat := by
  rw [State.readRam, zext16_toNat, Config.ramSize, Nat.mod_eq_of_lt (by omega)]

theorem zpPointer_toNat (z : Byte) (s : State) :
    (zpPointer z s).toNat = (s.ram.read ((z.toNat + 1) % 256)).toNat * 256 + (s.ram.read z.toNat).toNat := by
  rw [zpPointer, addrOf_toNat, readRam_zext16, readRam_zext16, BitVec.toNat_add, BitVec.toNat_ofNat]

/-- Settles O5: a zero-page address is a byte, widened. -/
theorem zeroPageFormsWrapInPageZero : Obligations.ZeroPageFormsWrapInPageZero := by
  refine ⟨fun zp _ => ?_, fun zp s => ?_, fun zp s => ?_, fun zp s => ⟨hiByte_zext16 _, hiByte_zext16 _⟩,
    fun _ _ => ⟨rfl, rfl, rfl⟩, fun s hx => ?_⟩
  · rw [atZp, zext16_toNat]
    exact ⟨rfl, Nat.le_of_lt_succ zp.isLt⟩
  · rw [atZpX, zext16_toNat, BitVec.toNat_add]
  · rw [atZpY, zext16_toNat, BitVec.toNat_add]
  · rw [atZpX, hx]
    rfl

/-- The column `page_penalty` of the opcode table, row by row (30_encoding.md R115). -/
theorem pagePenalty_iff : ∀ k ∈ List.range 16, ∀ r ∈ opcodeRowsAt k,
    (r.pagePenalty = true ↔ r.mnemonic ∈ ["ADC", "AND", "CMP", "EOR", "LDA", "LDX", "LDY", "ORA", "SBC"] ∧
      r.mode ∈ [Mode.absoluteX, .absoluteY, .indirectIndexed]) := by
  decide

theorem mem_opcodeRowsAt {op : Byte} {row : OpRow} (h : opcodeRow op = some row) :
    op.toNat / 16 ∈ List.range 16 ∧ row ∈ opcodeRowsAt (op.toNat / 16) :=
  ⟨List.mem_range.mpr (by omega), List.mem_of_find?_eq_some (opcodeRow_eq op ▸ h)⟩

theorem charge_eq (pl : Place) (op : Byte) (s : State) :
    pl.charge op s = { s with penalty := if penaltyEligible op && pl.crossed then 1 else s.penalty } := by
  unfold Place.charge State.setPenalty
  split <;> rfl

/-- Settles O6: the indexed forms are one operation, and the eligible opcodes are read off the instruction's row. -/
theorem absoluteFormsWrapAt16BitsAndNoteAPageCrossing : Obligations.AbsoluteFormsWrapAt16BitsAndNoteAPageCrossing := by
  refine ⟨fun _ _ => ⟨rfl, rfl⟩, fun a s => ⟨indexed_ea_toNat a s.x, indexed_ea_toNat a s.y⟩,
    fun a s => ⟨indexed_crossed a s.x, indexed_crossed a s.y⟩, charge_eq, fun i => ?_⟩
  obtain ⟨row, hrow, _, _⟩ := exists_opcodeRow i
  obtain ⟨hk, hmem⟩ := mem_opcodeRowsAt hrow
  simp only [penaltyEligible, mnemonicOf, modeOf, hrow, Option.map_some, Option.getD_some]
  exact pagePenalty_iff _ hk row hmem

/-- Settles O7: page zero is RAM, where a CPU read gives the byte of the address and changes nothing. -/
theorem indexedPointersWrapInPageZero : Obligations.IndexedPointersWrapInPageZero := by
  refine ⟨fun zp s => ⟨?_, rfl⟩, fun zp s => ⟨zpPointer_toNat zp s, indexed_ea_toNat _ s.y, indexed_crossed _ s.y⟩,
    fun z s => ?_⟩
  · rw [atIndX, zpPointer_toNat, BitVec.toNat_add, Nat.mod_add_mod]
  · rw [(zpPointer_memRead z s).1, readRam_zext16]

end Sys2Proof.EncodingFamily

/-! SUPPORT. One turn of the `run` loop at bytes that are an instruction's, or at an undefined opcode, for a `run` call in
progress and for the host's single step at once (60_exceptions.md R351, R356), and what `settle` leaves after it. -/

namespace Sys2Proof.EncodingFamily

open Sys2Proof Sys2Proof.Machine Sys2Proof.Claims Sys2Proof.StateFamily Sys2Proof.MemoryFamily

theorem fetchBytes_cons {n : Nat} {a : Addr} {s : State} {b : Byte} {bs : List Byte}
    (h : fetchBytes (n + 1) a s = .ok (b :: bs)) : fetchByte a s = .ok b ∧ fetchBytes n (a + 1#16) s = .ok bs := by
  rw [fetchBytes] at h
  split at h
  · cases h
  · rename_i hb
    split at h
    · cases h
    · rename_i hbs
      cases h
      exact ⟨hb, hbs⟩

theorem runOne_encode {s : State} {i : Instr} {r : Option RunCall}
    (hfetch : fetchBytes (encode i).length s.pc s = .ok (encode i)) (hbudget : overBudget r i.baseCost = false) :
    runOne r s = onNext (settle r i.baseCost) (exec i (beginInstr (encode i).length s)) := by
  obtain ⟨row, hrow, hlen, hcost⟩ := exists_opcodeRow i
  obtain ⟨hop, hoperands⟩ := fetchBytes_cons hfetch
  have hdecode : decode (i.opcode :: i.operands) = .ok (i, []) := decode_encode_self i
  have hlength : 1 + i.operands.length = (encode i).length := Nat.add_comm _ _
  simp only [runOne, hop, hrow, hcost, hbudget, hlen, hoperands, hdecode, hlength, Bool.false_eq_true, if_false]

theorem runOne_overBudget {s : State} {op : Byte} {row : OpRow} {r : Option RunCall} (hop : fetchByte s.pc s = .ok op)
    (hrow : opcodeRow op = some row) (hbudget : overBudget r row.cycles = true) :
    runOne r s = .next (endRun (spentSoFar r) s) := by
  simp only [runOne, hop, hrow, hbudget, if_true]

theorem runOne_undefined {s : State} {op : Byte} (hop : fetchByte s.pc s = .ok op) (hrow : opcodeRow op = none)
    (r : Option RunCall) : runOne r s = .next (undefinedOpcode r s) := by
  simp only [runOne, hop, hrow]

/-- A CPU that is not Running executes nothing (60_exceptions.md R351, R356). -/
theorem step_stopped_run {s : State} {c : RunCall} (hrun : s.run = some c) (hstate : s.runState ≠ .running) :
    step s = .next (endRun c.spent s) := by
  simp only [step, stepMachine, hrun, continueRun, if_pos hstate]

theorem step_stopped_single {s : State} (hrun : s.run = none) (hcalls : s.calls = []) (hstate : s.runState ≠ .running) :
    step s = .next (endRun 0 s) := by
  simp only [step, stepMachine, hrun, hcalls, singleStep, if_pos hstate]

/-- The end of an instruction with no failed access, in the host's single step. -/
theorem settle_none {t : State} (h : t.busFault = false) (cost : Nat) : settle none cost t =
    { t with penalty := 0, stackFault := false, run := none, returned := .clocks (cost + t.penalty) } := by
  simp [settle, endRun, spentSoFar, h]

theorem settle_running {t : State} (h : t.busFault = false) (hstate : t.runState = .running) (c : RunCall) (cost : Nat) :
    settle (some c) cost t =
      { t with penalty := 0, stackFault := false, run := some { c with spent := c.spent + cost + t.penalty } } := by
  simp [settle, spentSoFar, h, hstate]

theorem settle_stopped {t : State} (h : t.busFault = false) (hstate : t.runState ≠ .running) (c : RunCall) (cost : Nat) :
    settle (some c) cost t =
      { t with penalty := 0, stackFault := false, run := none, returned := .clocks (c.spent + cost + t.penalty) } := by
  simp [settle, endRun, spentSoFar, h, hstate]

theorem settle_busFault {t : State} (h : t.busFault = true) (hstate : t.runState ≠ .running) (r : Option RunCall)
    (cost : Nat) : settle r cost t = { t with
      penalty := 0, stackFault := false, busFault := false, draws := t.draws + 1, run := none
      returned := .clocks (Config.freeClocks t.draws) } := by
  cases r with
  | none => simp [settle, endRun, State.drawn, h]
  | some c => simp [settle, endRun, State.drawn, h, hstate]

/-- Settles O36: the bytes at PC decode to the instruction they encode, whose row gives the length and the base cost. -/
theorem stepRunsTheDecodedInstruction : Obligations.StepRunsTheDecodedInstruction := by
  refine ⟨fun s i hidle hfetch => ?_, fun s i c hrun hstate hfetch hbudget => ?_,
    fun s c op row hrun hstate hop hrow hbudget => ?_, fun _ _ => rfl, fun cost _ h => settle_none h cost,
    fun c cost _ h hstate => settle_running h hstate c cost, fun c cost _ h hstate => settle_stopped h hstate c cost,
    fun r cost _ h hstate => ⟨_, settle_busFault h hstate r cost⟩, fun _ _ hrun hstate => step_stopped_run hrun hstate,
    fun s hrun hcalls hstate => ?_⟩
  · rw [step_idle hidle]
    exact runOne_encode hfetch rfl
  · rw [step_running hrun hstate]
    exact runOne_encode hfetch (decide_eq_false (Nat.not_lt.mpr hbudget))
  · rw [step_running hrun hstate]
    exact runOne_overBudget hop hrow (decide_eq_true hbudget)
  · rw [step_stopped_single hrun hcalls hstate, endRun, hrun]

/-- Settles O37: the table is looked at before the budget is tested. -/
theorem undefinedOpcodeEndsInErrorOnePastTheByte : Obligations.UndefinedOpcodeEndsInErrorOnePastTheByte := by
  refine ⟨fun s c op hrun hstate hop hrow => ?_, fun s op hidle hop hrow => ?_⟩
  · rw [step_running hrun hstate, runOne_undefined hop hrow]
    rfl
  · rw [step_idle hidle, runOne_undefined hop hrow, undefinedOpcode, endRun]
    obtain ⟨_, hrun, _, _⟩ := hidle
    rw [hrun]
    rfl

end Sys2Proof.EncodingFamily

/-! SUPPORT. What a bus access leaves of every byte of every memory: a read leaves all of them, a write all but the one it
reaches (48_bus.md R300, R301, R306 to R308). -/

namespace Sys2Proof.LoadStoreFamily

open Sys2Proof Sys2Proof.Machine Sys2Proof.Claims

theorem keepsMemory_trans {s t u : State} (h : KeepsMemory s t) (h' : KeepsMemory t u) : KeepsMemory s u := by
  obtain ⟨hram, hnt, hpal, hspr, hcart⟩ := h
  obtain ⟨hram', hnt', hpal', hspr', hcart'⟩ := h'
  exact ⟨hram'.trans hram, hnt'.trans hnt, hpal'.trans hpal, hspr'.trans hspr, hcart'.trans hcart⟩

theorem keepsOtherBytes_of_keepsMemory {s t : State} (h : KeepsMemory s t) (a : Addr) : KeepsOtherBytes a s t := by
  obtain ⟨hram, hnt, hpal, hspr, hcart⟩ := h
  exact ⟨fun b _ => by rw [State.readRam, State.readRam, hram], fun k _ => by rw [hnt], fun k _ => by rw [hpal],
    fun k _ => by rw [hspr], hcart⟩

theorem setPpu_keepsMemory (s : State) (u : Ppu) : KeepsMemory s (s.setPpu u) := ⟨rfl, rfl, rfl, rfl, rfl⟩

theorem memRead_keepsMemory {a : Addr} {v : Byte} {s t : State} (h : memRead a s = .ok v t) : KeepsMemory s t := by
  rw [memRead_frame h]
  exact ⟨rfl, rfl, rfl, rfl, rfl⟩

theorem writeRam_keepsOtherBytes {a : Addr} (h : a.toNat < 0x2000) (v : Byte) (s : State) :
    KeepsOtherBytes a s (s.writeRam a v) :=
  ⟨fun _ hb => Memory.read_write_other _ _ _ _ (fun hab => hb ⟨h, hab.symm⟩), fun _ _ => rfl, fun _ _ => rfl,
    fun _ _ => rfl, rfl⟩

/-- The number of a PPU slot (10_state.md R35). -/
def slotNumber : Slot → Nat
  | .control1 => 0
  | .control2 => 1
  | .status => 2
  | .spriteMemAddress => 3
  | .spriteMemData => 4
  | .scroll => 5
  | .videoMemAddress => 6
  | .videoMemData => 7

theorem slotNumber_ofAddr (a : Addr) : slotNumber (Slot.ofAddr a) = a.toNat % 8 := by
  have hlt : a.toNat % 8 < 8 := Nat.mod_lt _ (by decide)
  unfold Slot.ofAddr
  generalize a.toNat % 8 = n at hlt
  interval_cases n <;> rfl

/-- The byte a video write lands on, with the window that takes it (48_bus.md R307). -/
theorem vidWrite_lands {a : Nat} {v : Byte} {s t : State} (h : vidWrite a v s = .ok () t) :
    (0x2000 ≤ a % 0x4000 ∧ a % 0x4000 < 0x3F00 ∧ t = { s with nt := s.nt.write (ntIndex (a % 0x4000)) v }) ∨
      (0x3F00 ≤ a % 0x4000 ∧ t = { s with pal := s.pal.write (palIndex (a % 0x4000)) v }) := by
  unfold vidWrite at h
  dsimp only at h
  split at h
  · cases h
  · split at h
    · injection h with _ ht
      exact .inl ⟨Nat.not_lt.mp ‹_›, ‹_›, ht.symm⟩
    · injection h with _ ht
      exact .inr ⟨Nat.not_lt.mp ‹_›, ht.symm⟩

/-- A write to VideoMemData reaches one nametable or palette byte (46_ppu_registers.md R249). -/
theorem writeVideoData_keepsOtherBytes {a : Addr} {v : Byte} {s t : State} (h1 : 0x2000 ≤ a.toNat) (h2 : a.toNat < 0x4000)
    (hslot : a.toNat % 8 = 7) (h : writeVideoData v s = .ok () t) : KeepsOtherBytes a s t := by
  unfold writeVideoData at h
  split at h
  · injection h with _ ht
    subst ht
    rcases vidWrite_lands ‹_› with ⟨hlow, hhigh, rfl⟩ | ⟨hlow, rfl⟩
    · exact ⟨fun _ _ => rfl,
        fun k hk => Memory.read_write_other _ _ _ _ (fun hkey => hk ⟨h1, h2, hslot, hlow, hhigh, hkey.symm⟩),
        fun _ _ => rfl, fun _ _ => rfl, rfl⟩
    · exact ⟨fun _ _ => rfl, fun _ _ => rfl,
        fun k hk => Memory.read_write_other _ _ _ _ (fun hkey => hk ⟨h1, h2, hslot, hlow, hkey.symm⟩),
        fun _ _ => rfl, rfl⟩
  · cases h
  · cases h

/-- A write to SpriteMemData reaches one sprite byte (46_ppu_registers.md R245). -/
theorem writeSpriteData_keepsOtherBytes {a : Addr} {v : Byte} {s t : State} (h1 : 0x2000 ≤ a.toNat) (h2 : a.toNat < 0x4000)
    (hslot : a.toNat % 8 = 4) (h : writeSpriteData v s = .ok () t) : KeepsOtherBytes a s t := by
  injection h with _ ht
  subst ht
  refine ⟨fun _ _ => rfl, fun _ _ => rfl, fun _ _ => rfl, fun k hk => ?_, rfl⟩
  refine Memory.read_write_other _ _ _ _ (fun hkey => hk ⟨h1, h2, hslot, ?_⟩)
  rw [← hkey, Nat.mod_eq_of_lt s.ppu.sprAddr.isLt]

/-- Of the eight slots only the two data ports reach a memory (48_bus.md R303). -/
theorem ppuWrite_keepsOtherBytes {a : Addr} {v : Byte} {s t : State} (h1 : 0x2000 ≤ a.toNat) (h2 : a.toNat < 0x4000)
    (h : ppuWrite (Slot.ofAddr a) v s = .ok () t) : KeepsOtherBytes a s t := by
  have hnumber := slotNumber_ofAddr a
  generalize Slot.ofAddr a = slot at h hnumber
  cases slot with
  | spriteMemData => exact writeSpriteData_keepsOtherBytes h1 h2 hnumber.symm h
  | videoMemData => exact writeVideoData_keepsOtherBytes h1 h2 hnumber.symm h
  | control1 =>
    simp only [ppuWrite, writeControl1] at h
    split at h
    · cases h
    · injection h with _ ht
      subst ht
      exact keepsOtherBytes_of_keepsMemory (setPpu_keepsMemory s _) a
  | control2 | status | spriteMemAddress | scroll | videoMemAddress =>
    injection h with _ ht
    subst ht
    exact keepsOtherBytes_of_keepsMemory (setPpu_keepsMemory s _) a

/-- A CPU write that succeeds lies below 0x4000 (48_bus.md R301). -/
theorem memWrite_ok_lt {a : Addr} {v : Byte} {s t : State} (h : memWrite a v s = .ok () t) : a.toNat < 0x4000 := by
  by_contra hhigh
  obtain ⟨f, hf⟩ := memWrite_high (v := v) (st := s) (Nat.not_lt.mp hhigh)
  rw [hf] at h
  cases h

theorem memWrite_keepsOtherBytes {a : Addr} {v : Byte} {s t : State} (h : memWrite a v s = .ok () t) :
    KeepsOtherBytes a s t := by
  have hlt := memWrite_ok_lt h
  by_cases hram : a.toNat < 0x2000
  · rw [memWrite_ram hram] at h
    injection h with _ ht
    exact ht ▸ writeRam_keepsOtherBytes hram v s
  · rw [memWrite_ppu (Nat.not_lt.mp hram) hlt] at h
    exact ppuWrite_keepsOtherBytes (Nat.not_lt.mp hram) hlt h

/-- Outside the PPU window a CPU write leaves the PPU's registers (48_bus.md R301). -/
theorem memWrite_keepsPpu {a : Addr} {v : Byte} {s t : State} (h : memWrite a v s = .ok () t)
    (ha : a.toNat < 0x2000 ∨ 0x4000 ≤ a.toNat) : t.ppu = s.ppu := by
  have hlt := memWrite_ok_lt h
  rw [memWrite_ram (by omega)] at h
  injection h with _ ht
  exact ht ▸ rfl

end Sys2Proof.LoadStoreFamily

/-! The memory frames of the load and store family (40_load_store_transfer.md R140): what neither stores nor pushes leaves all
of memory, and a store all but the byte its address reaches. -/

namespace Sys2Proof.LoadStoreFamily

open Sys2Proof Sys2Proof.Machine Sys2Proof.Claims Sys2Proof.StateFamily

theorem stackEnd_keepsMemory {s t : State} (h : KeepsMemory s t) : KeepsMemory s (stackEnd t) := by
  unfold stackEnd
  split <;> exact h

theorem pulled_keepsMemory (s : State) : KeepsMemory s (pulled s) := ⟨rfl, rfl, rfl, rfl, rfl⟩

/-- RTS: two pulls, then PC (43_control_flow.md R201). -/
theorem returnFromSubroutine_keepsMemory (s : State) (pc : Addr) :
    KeepsMemory s (stackEnd ((pulled (pulled (stackBegin s))).setPc pc)) :=
  stackEnd_keepsMemory (keepsMemory_trans (pulled_keepsMemory (stackBegin s)) (pulled_keepsMemory (pulled (stackBegin s))))

/-- RTI: three pulls, with P, PC and the count (45_system.md R231). -/
theorem returnFromInterrupt_keepsMemory (s : State) : KeepsMemory s (returnFromInterrupt s) := by
  unfold returnFromInterrupt
  extract_lets t u w
  have ht : KeepsMemory s t := pulled_keepsMemory (stackBegin s)
  have hu : KeepsMemory t u := pulled_keepsMemory (t.setP _)
  have hw : KeepsMemory u w := pulled_keepsMemory u
  clear_value w
  exact stackEnd_keepsMemory (keepsMemory_trans (keepsMemory_trans ht hu) hw)

theorem branch_keepsMemory (cond : Bool) (d : Byte) (s : State) : KeepsMemory s (branch cond d s) := by
  cases cond <;> exact ⟨rfl, rfl, rfl, rfl, rfl⟩

theorem charge_keepsMemory (pl : Place) (op : Byte) (s : State) : KeepsMemory s (pl.charge op s) := by
  unfold Place.charge
  split <;> exact ⟨rfl, rfl, rfl, rfl, rfl⟩

section

variable {s : State} {spoil : State → State} (hspoil : ∀ t, KeepsMemory t (spoil t))
include hspoil

theorem readThen_keepsMemory {a : Addr} {k : Byte → State → Result} (hk : ∀ v t, Ensures (k v t) (KeepsMemory t)) :
    Ensures (readThen a spoil k s) (KeepsMemory s) := by
  intro r h
  rcases readThen_next h with ⟨v, t, hv, hr⟩ | ⟨_, _, rfl⟩
  · exact keepsMemory_trans (memRead_keepsMemory hv) (hk v t r hr)
  · exact hspoil s

theorem readOperand_keepsMemory {op : Byte} {form : State → Place} {effect : Byte → State → State}
    (heffect : ∀ m t, KeepsMemory t (effect m t)) : Ensures (readOperand op form spoil effect s) (KeepsMemory s) :=
  (readThen_keepsMemory hspoil (fun m t => ensures_next (heffect m t))).imp
    (fun _ => keepsMemory_trans (charge_keepsMemory (form s) op s))

end

/-- The instructions by how they reach the state: what stores or pushes is excluded, the operand reads are bus reads, the
pulls and the branches have lemmas of their own, and the rest writes registers alone. -/
theorem exec_keepsMemory {i : Instr} {s : State} (hstore : storedAt i s = none) (hpush : pushes i = 0) :
    Ensures (exec i s) (KeepsMemory s) := by
  cases i with
  | staZp _ | staZpX _ | staAbs _ | staAbsX _ | staAbsY _ | staIndX _ | staIndY _ | stxZp _ | stxZpY _ | stxAbs _
  | styZp _ | styZpX _ | styAbs _ | incZp _ | incZpX _ | incAbs _ | incAbsX _ | decZp _ | decZpX _ | decAbs _ | decAbsX _
  | aslZp _ | aslZpX _ | aslAbs _ | aslAbsX _ | lsrZp _ | lsrZpX _ | lsrAbs _ | lsrAbsX _ | rolZp _ | rolZpX _ | rolAbs _
  | rolAbsX _ | rorZp _ | rorZpX _ | rorAbs _ | rorAbsX _ => cases hstore
  | pha | php | jsr _ | brk => cases hpush
  | ldaZp _ | ldaZpX _ | ldaAbs _ | ldaAbsX _ | ldaAbsY _ | ldaIndX _ | ldaIndY _ | ldxZp _ | ldxZpY _ | ldxAbs _
  | ldxAbsY _ | ldyZp _ | ldyZpX _ | ldyAbs _ | ldyAbsX _ | adcZp _ | adcZpX _ | adcAbs _ | adcAbsX _ | adcAbsY _
  | adcIndX _ | adcIndY _ | sbcZp _ | sbcZpX _ | sbcAbs _ | sbcAbsX _ | sbcAbsY _ | sbcIndX _ | sbcIndY _ | andZp _
  | andZpX _ | andAbs _ | andAbsX _ | andAbsY _ | andIndX _ | andIndY _ | oraZp _ | oraZpX _ | oraAbs _ | oraAbsX _
  | oraAbsY _ | oraIndX _ | oraIndY _ | eorZp _ | eorZpX _ | eorAbs _ | eorAbsX _ | eorAbsY _ | eorIndX _ | eorIndY _
  | cmpZp _ | cmpZpX _ | cmpAbs _ | cmpAbsX _ | cmpAbsY _ | cmpIndX _ | cmpIndY _ | cpxZp _ | cpxAbs _ | cpyZp _ | cpyAbs _
  | bitZp _ | bitAbs _ =>
    refine readOperand_keepsMemory (fun _ => ?_) (fun _ _ => ?_) <;> exact ⟨rfl, rfl, rfl, rfl, rfl⟩
  | jmpInd _ =>
    have hspoil (t : State) : KeepsMemory t t.spoilPc := ⟨rfl, rfl, rfl, rfl, rfl⟩
    exact readThen_keepsMemory hspoil
      (fun _ _ => readThen_keepsMemory hspoil (fun _ _ => ensures_next ⟨rfl, rfl, rfl, rfl, rfl⟩))
  | rts => exact ensures_next (returnFromSubroutine_keepsMemory s _)
  | rti => exact ensures_next (returnFromInterrupt_keepsMemory s)
  | pla | plp => exact ensures_next (stackEnd_keepsMemory ⟨rfl, rfl, rfl, rfl, rfl⟩)
  | bcc _ | bcs _ | beq _ | bmi _ | bne _ | bpl _ | bvc _ | bvs _ => exact ensures_next (branch_keepsMemory _ _ s)
  | _ => exact ensures_next ⟨rfl, rfl, rfl, rfl, rfl⟩

/-- Settles O48: outside the stores and the pushes the CPU only reads the bus. -/
theorem instructionsThatDoNotStoreKeepMemory : Obligations.InstructionsThatDoNotStoreKeepMemory :=
  fun _ _ t hstore hpush h => exec_keepsMemory hstore hpush t h

theorem mnemonicOf_eq_getD (i : Instr) : mnemonicOf i = (mnemonicAt i.opcode).getD "" := by
  rw [mnemonicOf, opcodeRow_eq, mnemonicAt]

/-- A store is one write at the address of its form, and no store is penalty-eligible. -/
theorem exec_eq_storeOperand {i : Instr} {s : State} {ea : Addr} (hm : mnemonicOf i ∈ ["STA", "STX", "STY"])
    (hea : storedAt i s = some ea) : ∃ op form v,
      penaltyEligible op = false ∧ (form s).ea = ea ∧ exec i s = storeOperand op form v s := by
  cases i with
  | staZp _ | staZpX _ | staAbs _ | staAbsX _ | staAbsY _ | staIndX _ | staIndY _ | stxZp _ | stxZpY _ | stxAbs _
  | styZp _ | styZpX _ | styAbs _ =>
    exact ⟨_, _, _, storing_opcodes_ineligible _ (by decide), Option.some.inj hea, rfl⟩
  | incZp _ | incZpX _ | incAbs _ | incAbsX _ | decZp _ | decZpX _ | decAbs _ | decAbsX _ | aslZp _ | aslZpX _ | aslAbs _
  | aslAbsX _ | lsrZp _ | lsrZpX _ | lsrAbs _ | lsrAbsX _ | rolZp _ | rolZpX _ | rolAbs _ | rolAbsX _ | rorZp _ | rorZpX _
  | rorAbs _ | rorAbsX _ => exact absurd hm (by rw [mnemonicOf_eq_getD]; simp only [Instr.opcode]; decide)
  | _ => cases hea

/-- Settles O49: the one write of a store, or the Error it ends in. -/
theorem storesKeepEveryOtherByte : Obligations.StoresKeepEveryOtherByte := by
  intro i s t ea hm hea h
  obtain ⟨op, form, v, hop, rfl, hexec⟩ := exec_eq_storeOperand hm hea
  rcases storeOperand_next hop (hexec ▸ h) with hw | ⟨_, _, rfl⟩
  · obtain ⟨ppu, ram, nt, pal, spr, rfl⟩ :
        ∃ ppu ram nt pal spr, t = { s with ppu := ppu, ram := ram, nt := nt, pal := pal, spr := spr } :=
      ⟨_, _, _, _, _, memWrite_frame hw⟩
    exact ⟨memWrite_keepsOtherBytes hw, rfl, rfl, rfl, rfl, rfl, rfl, rfl, rfl, memWrite_keepsPpu hw⟩
  · have hmem : KeepsMemory s s.busError := ⟨rfl, rfl, rfl, rfl, rfl⟩
    exact ⟨keepsOtherBytes_of_keepsMemory hmem _, rfl, rfl, rfl, rfl, rfl, rfl, rfl, rfl, fun _ => rfl⟩

end Sys2Proof.LoadStoreFamily

/-! SUPPORT. The encoding line of an instruction, a read and a store in one memory form, and what is unspecified after a
refused access, each said once for every instruction of its kind (30_encoding.md R116, R120; 00_scope.md R11). -/

namespace Sys2Proof.LoadStoreFamily

open Sys2Proof Sys2Proof.Machine Sys2Proof.Claims Sys2Proof.StateFamily

/-- The mode, base cost and penalty eligibility of an opcode's row. -/
def rowCodes (op : Byte) : Option (Mode × Nat × Bool) :=
  (opcodeRow op).map (fun r => (r.mode, r.cycles, r.pagePenalty))

/-- The encoding lines of a list of instructions, as one comparison of its bytes and rows with the opcode table's. -/
theorem codes_of_map_eq {l : List (Instr × List Byte × Mode × Nat × Bool)}
    (h : l.map (fun e => (encode e.1, rowCodes e.1.opcode)) = l.map (fun e => (e.2.1, some e.2.2))) : Codes l := by
  intro e he
  obtain ⟨hbytes, hrow⟩ := Prod.mk.inj (List.map_inj_left.mp h e he)
  obtain ⟨r, hr, hcodes⟩ := Option.map_eq_some_iff.mp hrow
  exact ⟨hbytes, r, hr, congrArg (·.1) hcodes, congrArg (·.2.1) hcodes, congrArg (·.2.2) hcodes⟩

/-- After a refused access `spoil` leaves unspecified nothing but what `opened` takes from the state after. -/
def SpoilsOnly (opened : State → State → State) (spoil : State → State) : Prop :=
  ∀ c, (spoil c).busError = busFaulted (opened c (spoil c).busError) (spoil c).busError

theorem reads_of_exec {form : State → Place} {i : Instr} {spoil : State → State} {effect : Byte → State → State}
    {opened : State → State → State} (hspoil : SpoilsOnly opened spoil)
    (h : ∀ s, exec i s = readOperand i.opcode form spoil effect s) : Reads form i effect opened := by
  intro s
  rw [h s]
  refine ⟨fun m t hok => ?_, fun f hfailed => ⟨_, ?_, hspoil _⟩, fun hfatal => ?_⟩
  · simp only [readOperand, readThen, hok]
  · simp only [readOperand, readThen, hfailed]
  · simp only [readOperand, readThen, hfatal]

theorem stores_of_exec {form : State → Place} {i : Instr} {v : State → Byte} (hop : penaltyEligible i.opcode = false)
    (h : ∀ s, exec i s = storeOperand i.opcode form (v s) s) : Stores form i v := by
  intro s
  rw [h s, storeOperand, charge_ineligible hop]
  refine ⟨fun t hok => ?_, fun f hfailed => ?_⟩
  · simp only [writeThen, hok]
  · simp only [writeThen, hfailed]
    rfl

end Sys2Proof.LoadStoreFamily

/-! The statements about what the loads, stores and transfers do (40_load_store_transfer.md R140 to R152). -/

namespace Sys2Proof.LoadStoreFamily

open Sys2Proof Sys2Proof.Machine Sys2Proof.Claims Sys2Proof.StateFamily

theorem loadA_eq_withA : loadA = withA := rfl

theorem loadX_eq_withX : loadX = withX := rfl

theorem loadY_eq_withY : loadY = withY := rfl

theorem spoilAZN_spoilsOnly : SpoilsOnly openAZN spoilAZN := fun _ => rfl

theorem spoilXZN_spoilsOnly : SpoilsOnly openXZN spoilXZN := fun _ => rfl

theorem spoilYZN_spoilsOnly : SpoilsOnly openYZN spoilYZN := fun _ => rfl

section

variable {form : State → Place} {i : Instr}

theorem reads_loadA (h : ∀ s, exec i s = readOperand i.opcode form spoilAZN loadA s) : Reads form i withA openAZN :=
  loadA_eq_withA ▸ reads_of_exec spoilAZN_spoilsOnly h

theorem reads_loadX (h : ∀ s, exec i s = readOperand i.opcode form spoilXZN loadX s) : Reads form i withX openXZN :=
  loadX_eq_withX ▸ reads_of_exec spoilXZN_spoilsOnly h

theorem reads_loadY (h : ∀ s, exec i s = readOperand i.opcode form spoilYZN loadY s) : Reads form i withY openYZN :=
  loadY_eq_withY ▸ reads_of_exec spoilYZN_spoilsOnly h

end

/-- Settles O9: a load is its operand form, `SetZN` and its register. -/
theorem loadsWriteTheirRegisterAndZN : Obligations.LoadsWriteTheirRegisterAndZN :=
  ⟨fun _ _ => codes_of_map_eq rfl,
    fun _ _ => rfl, fun _ => reads_loadA (fun _ => rfl), fun _ => reads_loadA (fun _ => rfl),
    fun _ => reads_loadA (fun _ => rfl), fun _ => reads_loadA (fun _ => rfl), fun _ => reads_loadA (fun _ => rfl),
    fun _ => reads_loadA (fun _ => rfl), fun _ => reads_loadA (fun _ => rfl),
    fun _ _ => rfl, fun _ => reads_loadX (fun _ => rfl), fun _ => reads_loadX (fun _ => rfl),
    fun _ => reads_loadX (fun _ => rfl), fun _ => reads_loadX (fun _ => rfl),
    fun _ _ => rfl, fun _ => reads_loadY (fun _ => rfl), fun _ => reads_loadY (fun _ => rfl),
    fun _ => reads_loadY (fun _ => rfl), fun _ => reads_loadY (fun _ => rfl)⟩

/-- Settles O10: a store is its operand form and one write of its register. -/
theorem storesWriteOneByteAndNothingElse : Obligations.StoresWriteOneByteAndNothingElse := by
  refine ⟨fun _ _ => codes_of_map_eq rfl, ?_, ?_, ?_, ?_, ?_, ?_, ?_, ?_, ?_, ?_, ?_, ?_, ?_⟩
  all_goals exact fun _ => stores_of_exec (storing_opcodes_ineligible _ (by simp [Instr.opcode])) (fun _ => rfl)

/-- Settles O11: a transfer is the load of a register's byte, but TXS, which writes S alone. -/
theorem transfersCopyARegister : Obligations.TransfersCopyARegister := by
  exact ⟨codes_of_map_eq rfl, fun _ => rfl, fun _ => rfl, fun _ => rfl, fun _ => rfl, fun _ => rfl, fun _ => rfl⟩

end Sys2Proof.LoadStoreFamily

/-! SUPPORT. What `AddCore` computes, in numbers: of two bytes for ADC, and of a byte and a complemented byte for SBC and the
compares (41_arithmetic_logic.md R160, R162, R165, R179). -/

namespace Sys2Proof.ArithLogicFamily

open Sys2Proof Sys2Proof.Machine Sys2Proof.Claims

theorem signBit_eq (v : Byte) : v.getLsbD 7 = decide (128 ≤ v.toNat) := BitVec.msb_eq_decide v

theorem and_0x80_bne_zero (v : Byte) : (v &&& 0x80#8 != 0#8) = v.getLsbD 7 := by
  have hmask : v &&& 0x80#8 = if v.getLsbD 7 then BitVec.twoPow 8 7 else 0#8 := BitVec.and_twoPow v 7
  rw [hmask]
  cases v.getLsbD 7 <;> rfl

/-- The bit formula for the overflow: the operands have the same sign bit and the sum has the other one. -/
theorem ovf_eq_signBits (a m : Byte) (c : Bool) :
    (addCore a m c).ovf = (a.getLsbD 7 == m.getLsbD 7 && (addCore a m c).r.getLsbD 7 != a.getLsbD 7) := by
  have hformula : (addCore a m c).ovf =
      ((a ^^^ (addCore a m c).r) &&& (m ^^^ (addCore a m c).r) &&& 0x80#8 != 0#8) := rfl
  rw [hformula, and_0x80_bne_zero, BitVec.getLsbD_and, BitVec.getLsbD_xor, BitVec.getLsbD_xor]
  generalize (addCore a m c).r.getLsbD 7 = r7
  cases a.getLsbD 7 <;> cases m.getLsbD 7 <;> cases r7 <;> rfl

theorem addCore_r_toNat (a m : Byte) (c : Bool) :
    (addCore a m c).r.toNat = (a.toNat + m.toNat + c.toNat) % 256 := BitVec.toNat_ofNat _ _

/-- The overflow as the spec explains it: the signed sum does not fit a byte. -/
theorem ovf_eq_signed (a m : Byte) (c : Bool) :
    (addCore a m c).ovf =
      decide (signed a + signed m + (c.toNat : Int) < -128 ∨ signed a + signed m + (c.toNat : Int) > 127) := by
  have hr := addCore_r_toNat a m c
  have ha := a.isLt
  have hm := m.isLt
  have hc := Bool.toNat_le c
  rw [ovf_eq_signBits, Bool.eq_iff_iff, decide_eq_true_iff]
  simp only [signBit_eq, signed, Bool.and_eq_true, beq_iff_eq, bne_iff_ne, ne_eq, decide_eq_decide]
  split <;> split <;> omega

theorem addCore_eq (a m : Byte) (c : Bool) : addCore a m c =
    { r := BitVec.ofNat 8 (a.toNat + m.toNat + c.toNat)
      carry := decide (a.toNat + m.toNat + c.toNat > 0xFF)
      ovf := decide (signed a + signed m + (c.toNat : Int) < -128 ∨ signed a + signed m + (c.toNat : Int) > 127) } := by
  rw [← ovf_eq_signed]
  rfl

theorem complement_toNat (m : Byte) : (m ^^^ 0xFF#8).toNat = 255 - m.toNat := by
  have hnot : m ^^^ 0xFF#8 = ~~~m := BitVec.xor_allOnes
  rw [hnot, BitVec.toNat_not]

theorem signed_complement (m : Byte) : signed (m ^^^ 0xFF#8) = -1 - signed m := by
  have hm := m.isLt
  rw [signed, signed, complement_toNat]
  split <;> split <;> omega

/-- Adding the complement with the carry is subtracting with the borrow `1 - c` (R179 (b), (e)). -/
theorem addCore_complement (a m : Byte) (c : Bool) : addCore a (m ^^^ 0xFF#8) c =
    { r := BitVec.ofNat 8 (a.toNat + 256 - m.toNat - (1 - c.toNat))
      carry := decide (a.toNat ≥ m.toNat + (1 - c.toNat))
      ovf := decide (signed a - signed m - ((1 - c.toNat : Nat) : Int) < -128 ∨
        signed a - signed m - ((1 - c.toNat : Nat) : Int) > 127) } := by
  have hm := m.isLt
  have hc := Bool.toNat_le c
  have hsum : a.toNat + (255 - m.toNat) + c.toNat = a.toNat + 256 - m.toNat - (1 - c.toNat) := by omega
  have hcarry : a.toNat + 256 - m.toNat - (1 - c.toNat) > 0xFF ↔ a.toNat ≥ m.toNat + (1 - c.toNat) := by omega
  have hexact : signed a + (-1 - signed m) + (c.toNat : Int) = signed a - signed m - ((1 - c.toNat : Nat) : Int) := by omega
  simp only [addCore_eq, complement_toNat, signed_complement, hsum, hcarry, hexact]

/-- Settles O8: the sum and the carry as the model writes them, the overflow by the sign bits and by the signed sum. -/
theorem addCoreCarriesAndOverflows : Obligations.AddCoreCarriesAndOverflows :=
  fun a m c => ⟨addCore_r_toNat a m c, rfl, (decide_not (p := _ = _)).symm, ovf_eq_signBits a m c, ovf_eq_signed a m c⟩

end Sys2Proof.ArithLogicFamily

/-! SUPPORT. The effects of the arithmetic and logic instructions as the statements write them, and a read-modify-write in one
memory form (41_arithmetic_logic.md R164 to R178; 20_memory.md R64; 00_scope.md R11). -/

namespace Sys2Proof.ArithLogicFamily

open Sys2Proof Sys2Proof.Machine Sys2Proof.Claims Sys2Proof.LoadStoreFamily

theorem adc_eq_added (m : Byte) (s : State) : adc m s = added m s := by
  rw [adc, addToA_eq, addCore_eq]
  rfl

theorem sbc_eq_subtracted (m : Byte) (s : State) : sbc m s = subtracted m s := by
  rw [sbc, addToA_eq, addCore_complement]
  rfl

theorem ofNat_sub_eq (r m : Byte) : BitVec.ofNat 8 (r.toNat + 256 - m.toNat) = r - m := by
  have hm := m.isLt
  refine BitVec.eq_of_toNat_eq ?_
  rw [BitVec.toNat_ofNat, BitVec.toNat_sub]
  omega

/-- A compare subtracts without a borrow (R169). -/
theorem compareReg_eq_compared (r m : Byte) (s : State) : compareReg r m s = compared r m s := by
  have hzero : (r - m == 0#8) = decide (r = m) := decide_eq_decide.mpr sub_eq_zero
  rw [compareReg, addCore_complement]
  simp only [Bool.toNat_true, Nat.sub_self, Nat.sub_zero, Nat.add_zero, ofNat_sub_eq, Flags.setCZN, Flags.setZN, hzero]
  rfl

theorem ofNat_succ_eq (v : Byte) : BitVec.ofNat 8 ((v.toNat + 1) % 256) = v + 1#8 := by
  refine BitVec.eq_of_toNat_eq ?_
  rw [BitVec.toNat_ofNat, BitVec.toNat_add, BitVec.toNat_ofNat]
  omega

theorem ofNat_pred_eq (v : Byte) : BitVec.ofNat 8 ((v.toNat + 255) % 256) = v - 1#8 := by
  refine BitVec.eq_of_toNat_eq ?_
  rw [BitVec.toNat_ofNat, BitVec.toNat_sub, BitVec.toNat_ofNat]
  omega

theorem spoilACZVN_spoilsOnly : SpoilsOnly openAll spoilACZVN := fun _ => rfl

theorem spoilCZN_spoilsOnly : SpoilsOnly openCZN spoilCZN := fun _ => rfl

theorem spoilZVN_spoilsOnly : SpoilsOnly openZVN spoilZVN := fun _ => rfl

theorem spoilZN_spoilsOnly : SpoilsOnly openZN spoilZN := fun _ => rfl

section

variable {form : State → Place} {i : Instr}

theorem reads_adc (h : ∀ s, exec i s = readOperand i.opcode form spoilACZVN adc s) : Reads form i added openAll :=
  (funext₂ adc_eq_added : adc = added) ▸ reads_of_exec spoilACZVN_spoilsOnly h

theorem reads_sbc (h : ∀ s, exec i s = readOperand i.opcode form spoilACZVN sbc s) : Reads form i subtracted openAll :=
  (funext₂ sbc_eq_subtracted : sbc = subtracted) ▸ reads_of_exec spoilACZVN_spoilsOnly h

theorem reads_compare {reg : State → Byte}
    (h : ∀ s, exec i s = readOperand i.opcode form spoilCZN (fun m t => compareReg (reg t) m t) s) :
    Reads form i (fun m t => compared (reg t) m t) openCZN := by
  simpa only [compareReg_eq_compared] using reads_of_exec spoilCZN_spoilsOnly h

/-- A read-modify-write is its read, its write, and the flags its write leaves as they were, changed. -/
theorem modifies_of_exec {spoil : State → State} {compute : Byte → State → ShiftResult}
    {flags : ShiftResult → Flags → Flags} {effect : Byte → Flags → Byte × Flags} {opened : State → State → State}
    (hop : penaltyEligible i.opcode = false) (hspoil : SpoilsOnly opened spoil)
    (hresult : ∀ m t, (compute m t).r = (effect m t.p).1)
    (hflags : ∀ m t, flags (compute m t) t.p = (effect m t.p).2)
    (h : ∀ s, exec i s = modifyOperand i.opcode form spoil compute flags s) : Modifies form i effect opened := by
  intro s
  rw [h s, modifyOperand, charge_ineligible hop]
  refine ⟨fun m t u hread hwrite => ?_, fun m t f hread hrefused => ⟨_, ?_, hspoil t⟩,
    fun f hrefused => ⟨_, ?_, hspoil s⟩, fun hfatal => ?_⟩
  · have hp : u.p = t.p := by rw [memWrite_frame hwrite]
    simp only [readThen, hread, writeThen, hresult, hwrite, hp, hflags]
    rfl
  · simp only [readThen, hread, writeThen, hresult, hrefused]
  · simp only [readThen, hrefused]
  · simp only [readThen, hfatal]

theorem modifies_inc (hop : penaltyEligible i.opcode = false)
    (h : ∀ s, exec i s = modifyOperand i.opcode form spoilZN incremented flagsZN s) : Modifies form i plusOne openZN :=
  modifies_of_exec hop spoilZN_spoilsOnly (fun m _ => (ofNat_succ_eq m).symm)
    (fun m t => by rw [plusOne, ofNat_succ_eq]; rfl) h

theorem modifies_dec (hop : penaltyEligible i.opcode = false)
    (h : ∀ s, exec i s = modifyOperand i.opcode form spoilZN decremented flagsZN s) : Modifies form i minusOne openZN :=
  modifies_of_exec hop spoilZN_spoilsOnly (fun m _ => (ofNat_pred_eq m).symm)
    (fun m t => by rw [minusOne, ofNat_pred_eq]; rfl) h

end

end Sys2Proof.ArithLogicFamily

/-! The statements about what the arithmetic and logic instructions do (41_arithmetic_logic.md R163 to R179). -/

namespace Sys2Proof.ArithLogicFamily

open Sys2Proof Sys2Proof.Machine Sys2Proof.Claims Sys2Proof.LoadStoreFamily

/-- Settles O12: every form adds its operand by `AddCore`. -/
theorem adcAddsWithCarryAndSetsFlags : Obligations.AdcAddsWithCarryAndSetsFlags := by
  refine ⟨fun _ _ => codes_of_map_eq rfl, fun m s => congrArg _ (adc_eq_added m s), ?_, ?_, ?_, ?_, ?_, ?_, ?_⟩
  all_goals exact fun _ => reads_adc (fun _ => rfl)

/-- Settles O13: every form adds the complement of its operand by `AddCore`. -/
theorem sbcSubtractsWithBorrowAndSetsFlags : Obligations.SbcSubtractsWithBorrowAndSetsFlags := by
  refine ⟨fun _ _ => codes_of_map_eq rfl, fun m s => congrArg _ (sbc_eq_subtracted m s), ?_, ?_, ?_, ?_, ?_, ?_, ?_⟩
  all_goals exact fun _ => reads_sbc (fun _ => rfl)

/-- Settles O14: every form loads A with the combination. -/
theorem logicCombinesBitwiseWithA : Obligations.LogicCombinesBitwiseWithA := by
  refine ⟨fun _ _ => codes_of_map_eq rfl,
    fun _ _ => rfl, ?_, ?_, ?_, ?_, ?_, ?_, ?_,
    fun _ _ => rfl, ?_, ?_, ?_, ?_, ?_, ?_, ?_,
    fun _ _ => rfl, ?_, ?_, ?_, ?_, ?_, ?_, ?_⟩
  all_goals exact fun _ => reads_of_exec spoilAZN_spoilsOnly (fun _ => rfl)

/-- Settles O15: the three compares are one operation on A, X or Y. -/
theorem comparesSetCZNFromTheDifference : Obligations.ComparesSetCZNFromTheDifference := by
  refine ⟨fun _ _ => codes_of_map_eq rfl,
    fun m s => congrArg _ (compareReg_eq_compared s.a m s), ?_, ?_, ?_, ?_, ?_, ?_, ?_,
    fun m s => congrArg _ (compareReg_eq_compared s.x m s), ?_, ?_,
    fun m s => congrArg _ (compareReg_eq_compared s.y m s), ?_, ?_⟩
  all_goals exact fun _ => reads_compare (fun _ => rfl)

/-- Settles O16: both forms are the one test of their operand. -/
theorem bitTakesNAndVFromTheOperand : Obligations.BitTakesNAndVFromTheOperand :=
  ⟨fun _ _ => codes_of_map_eq rfl, fun _ => reads_of_exec spoilZVN_spoilsOnly (fun _ => rfl),
    fun _ => reads_of_exec spoilZVN_spoilsOnly (fun _ => rfl)⟩

/-- Settles O17: none of the eight forms is penalty-eligible, and each is one read and one write. -/
theorem incAndDecMemoryReadOnceAndWriteOnce : Obligations.IncAndDecMemoryReadOnceAndWriteOnce := by
  refine ⟨fun _ _ => codes_of_map_eq rfl, ?_, ?_, ?_, ?_, ?_, ?_, ?_, ?_⟩
  iterate 4 exact fun _ => modifies_inc (storing_opcodes_ineligible _ (by simp [Instr.opcode])) (fun _ => rfl)
  all_goals exact fun _ => modifies_dec (storing_opcodes_ineligible _ (by simp [Instr.opcode])) (fun _ => rfl)

/-- Settles O18: each is the load of its register with the byte after or before. -/
theorem indexIncrementsAndDecrementsWrap : Obligations.IndexIncrementsAndDecrementsWrap := by
  refine ⟨codes_of_map_eq rfl, fun s => ?_, fun s => ?_, fun s => ?_, fun s => ?_⟩
  · rw [ofNat_succ_eq]; rfl
  · rw [ofNat_succ_eq]; rfl
  · rw [ofNat_pred_eq]; rfl
  · rw [ofNat_pred_eq]; rfl

end Sys2Proof.ArithLogicFamily

/-! The memory frame of the read-modify-write instructions (41_arithmetic_logic.md R173, R174; 42_shift_rotate.md R180;
20_memory.md R64). -/

namespace Sys2Proof.ArithLogicFamily

open Sys2Proof Sys2Proof.Machine Sys2Proof.Claims Sys2Proof.StateFamily Sys2Proof.LoadStoreFamily

/-- Outside the PPU window a CPU read leaves the PPU's registers (48_bus.md R300). -/
theorem memRead_keepsPpu {a : Addr} {v : Byte} {s t : State} (h : memRead a s = .ok v t)
    (ha : a.toNat < 0x2000 ∨ 0x4000 ≤ a.toNat) : t.ppu = s.ppu := by
  unfold memRead at h
  rcases windowOf_cases a with ⟨_, hw⟩ | ⟨_, _, _⟩ | ⟨_, _, hw⟩ | ⟨_, _, hw⟩ | ⟨_, hw⟩
  · simp only [hw] at h
    injection h with _ ht
    rw [ht]
  · omega
  · simp only [hw] at h
    cases h
  all_goals
    simp only [hw] at h
    rw [mapperRead_ok h]

/-- INC, DEC and the memory shifts are one read and one write at the address of their form; they write Z, N and, but for INC
and DEC, C, and after a refused access leave no more than those unspecified. -/
theorem exec_eq_modifyOperand {i : Instr} {s : State} {ea : Addr}
    (hm : mnemonicOf i ∈ ["INC", "DEC", "ASL", "LSR", "ROL", "ROR"]) (hea : storedAt i s = some ea) :
    ∃ op form c compute flags, penaltyEligible op = false ∧
      (∀ t r, Touches [.c, .z, .n] t (t.setP (flags r t.p))) ∧ (form s).ea = ea ∧
      exec i s = modifyOperand op form (State.spoilFlags c true false true) compute flags s := by
  cases i with
  | incZp _ | incZpX _ | incAbs _ | incAbsX _ | decZp _ | decZpX _ | decAbs _ | decAbsX _ =>
    exact ⟨_, _, _, _, _, storing_opcodes_ineligible _ (by decide), fun t r => (Touches.setZN t r.r).mono (by simp),
      Option.some.inj hea, rfl⟩
  | aslZp _ | aslZpX _ | aslAbs _ | aslAbsX _ | lsrZp _ | lsrZpX _ | lsrAbs _ | lsrAbsX _ | rolZp _ | rolZpX _ | rolAbs _
  | rolAbsX _ | rorZp _ | rorZpX _ | rorAbs _ | rorAbsX _ =>
    exact ⟨_, _, _, _, _, storing_opcodes_ineligible _ (by decide), fun t r => Touches.setCZN t r.carry r.r,
      Option.some.inj hea, rfl⟩
  | staZp _ | staZpX _ | staAbs _ | staAbsX _ | staAbsY _ | staIndX _ | staIndY _ | stxZp _ | stxZpY _ | stxAbs _
  | styZp _ | styZpX _ | styAbs _ => exact absurd hm (by rw [mnemonicOf_eq_getD]; simp only [Instr.opcode]; decide)
  | _ => cases hea

section

variable {op : Byte} {form : State → Place} {spoil : State → State} {compute : Byte → State → ShiftResult}
  {flags : ShiftResult → Flags → Flags} {s t : State}

/-- After its read a read-modify-write reaches no byte but the one its write reaches; if the read is refused it reaches
none. -/
theorem modifyOperand_keepsBytes (hop : penaltyEligible op = false) (hspoil : ∀ u, KeepsMemory u (spoil u))
    (h : modifyOperand op form spoil compute flags s = .next t) :
    (∀ m u, memRead (form s).ea s = .ok m u → KeepsOtherBytes (form s).ea u t) ∧
      (∀ f, memRead (form s).ea s = .failed f → KeepsMemory s t) := by
  rcases modifyOperand_next hop h with ⟨m, u, w, hread, hwrite, rfl⟩ | ⟨m, u, f, hread, _, rfl⟩ | ⟨f, hrefused, rfl⟩
  · rw [hread]
    refine ⟨?_, nofun⟩
    rintro _ _ ⟨⟩
    have hkeep : KeepsOtherBytes (form s).ea u w := memWrite_keepsOtherBytes hwrite
    exact hkeep
  · rw [hread]
    refine ⟨?_, nofun⟩
    rintro _ _ ⟨⟩
    have hmem : KeepsMemory u (spoil u).busError := hspoil u
    exact keepsOtherBytes_of_keepsMemory hmem _
  · rw [hrefused]
    have hmem : KeepsMemory s (spoil s).busError := hspoil s
    refine ⟨?_, fun _ _ => hmem⟩
    rintro _ _ ⟨⟩

/-- Outside the PPU window a read-modify-write leaves the PPU's registers. -/
theorem modifyOperand_keepsPpu (hop : penaltyEligible op = false) (hspoil : ∀ u, (spoil u).ppu = u.ppu)
    (h : modifyOperand op form spoil compute flags s = .next t)
    (hea : (form s).ea.toNat < 0x2000 ∨ 0x4000 ≤ (form s).ea.toNat) : t.ppu = s.ppu := by
  rcases modifyOperand_next hop h with ⟨m, u, w, hread, hwrite, rfl⟩ | ⟨m, u, f, hread, _, rfl⟩ | ⟨f, _, rfl⟩
  · exact (memWrite_keepsPpu hwrite hea).trans (memRead_keepsPpu hread hea)
  · exact (hspoil u).trans (memRead_keepsPpu hread hea)
  · exact hspoil s

end

/-- Settles O51: the instruction's one write reaches the byte of its address, and of the registers and flags it writes C, Z
and N at most. -/
theorem readModifyWritesKeepEveryOtherByte : Obligations.ReadModifyWritesKeepEveryOtherByte := by
  intro i s t ea hm hea h
  obtain ⟨op, form, c, compute, flags, hop, hflags, rfl, hexec⟩ := exec_eq_modifyOperand hm hea
  rw [hexec] at h
  have hspoil (u : State) : Touches [.c, .z, .n] u (u.spoilFlags c true false true) :=
    .spoilFlags u (by simp) (by simp) (by simp) (by simp)
  have htouch : Touches [.c, .z, .n] s t := ensures_modifyOperand hspoil hflags t h
  have hspoilMemory (u : State) : KeepsMemory u (u.spoilFlags c true false true) := ⟨rfl, rfl, rfl, rfl, rfl⟩
  have hspoilPpu (u : State) : (u.spoilFlags c true false true).ppu = u.ppu := rfl
  obtain ⟨hkeep, hrefused⟩ := modifyOperand_keepsBytes hop hspoilMemory h
  exact ⟨hkeep, hrefused, htouch.same .a (by simp), htouch.same .x (by simp), htouch.same .y (by simp),
    htouch.same .s (by simp), htouch.same .pc (by simp), htouch.same .i (by simp), htouch.same .d (by simp),
    htouch.same .v (by simp), htouch.brk, modifyOperand_keepsPpu hop hspoilPpu h⟩

end Sys2Proof.ArithLogicFamily

/-! SUPPORT. A shift or rotate as the statements write it: the or of a rotate as a sum, the accumulator forms and the memory forms
(42_shift_rotate.md R180 to R184). -/

namespace Sys2Proof.ShiftRotateFamily

open Sys2Proof Sys2Proof.Machine Sys2Proof.Claims Sys2Proof.LoadStoreFamily Sys2Proof.ArithLogicFamily

/-- A multiple of `2 ^ i` and a number below `2 ^ i` have no bit in common: their sum is their or. -/
theorem ofNat_two_pow_add_eq_or {b i : Nat} (hb : b < 2 ^ i) (a : Nat) :
    BitVec.ofNat 8 (2 ^ i * a + b) = BitVec.ofNat 8 (2 ^ i * a) ||| BitVec.ofNat 8 b := by
  rw [Nat.two_pow_add_eq_or_of_lt hb, BitVec.ofNat_or]

theorem rotateLeft_r (c : Bool) (m : Byte) : (rotateLeft c m).r = BitVec.ofNat 8 (m.toNat * 2 + c.toNat) := by
  have hcarry : c.toNat < 2 ^ 1 := c.toNat_lt
  rw [rotateLeft, Nat.mul_comm]
  exact (ofNat_two_pow_add_eq_or hcarry m.toNat).symm

theorem rotateRight_r (c : Bool) (m : Byte) : (rotateRight c m).r = BitVec.ofNat 8 (m.toNat / 2 + c.toNat * 0x80) := by
  have hhalf : m.toNat / 2 < 2 ^ 7 := by omega
  rw [rotateRight, Nat.mul_comm, Nat.add_comm, BitVec.or_comm]
  exact (ofNat_two_pow_add_eq_or hhalf c.toNat).symm

/-- `effect` is the byte `compute` gives, with C, Z and N as every shift and rotate sets them (R180). -/
def IsShift (compute : Byte → State → ShiftResult) (effect : Byte → Flags → Byte × Flags) : Prop :=
  ∀ m s, effect m s.p = ((compute m s).r, flagsCZN (compute m s) s.p)

theorem asl_isShift : IsShift asl shiftedLeft := fun _ _ => rfl

theorem lsr_isShift : IsShift lsr shiftedRight := fun _ _ => rfl

theorem rol_isShift : IsShift rol rotatedLeft := fun m s => by
  rw [rotatedLeft, ← rotateLeft_r]
  rfl

theorem ror_isShift : IsShift ror rotatedRight := fun m s => by
  rw [rotatedRight, ← rotateRight_r]
  rfl

section

variable {i : Instr} {compute : Byte → State → ShiftResult} {effect : Byte → Flags → Byte × Flags}

theorem shiftsA_of_exec (hshift : IsShift compute effect) (h : ∀ s, exec i s = .next (shiftA compute s)) :
    ShiftsA i effect := by
  intro s
  rw [h s, hshift s.a s]
  rfl

theorem modifies_shift {form : State → Place} (hshift : IsShift compute effect) (hop : penaltyEligible i.opcode = false)
    (h : ∀ s, exec i s = modifyOperand i.opcode form spoilCZN compute flagsCZN s) : Modifies form i effect openCZN :=
  modifies_of_exec hop spoilCZN_spoilsOnly (fun m t => congrArg Prod.fst (hshift m t).symm)
    (fun m t => congrArg Prod.snd (hshift m t).symm) h

end

end Sys2Proof.ShiftRotateFamily

/-! The statement about what the shifts and rotates do (42_shift_rotate.md R180 to R184). -/

namespace Sys2Proof.ShiftRotateFamily

open Sys2Proof Sys2Proof.Machine Sys2Proof.Claims Sys2Proof.LoadStoreFamily Sys2Proof.ArithLogicFamily

/-- Settles O19: the five forms of each are one computation, of A or of one memory byte, and none is penalty-eligible. -/
theorem shiftsMoveOneBitOfAOrOfMemory : Obligations.ShiftsMoveOneBitOfAOrOfMemory := by
  refine ⟨fun _ _ => codes_of_map_eq rfl,
    shiftsA_of_exec asl_isShift (fun _ => rfl), shiftsA_of_exec lsr_isShift (fun _ => rfl),
    shiftsA_of_exec rol_isShift (fun _ => rfl), shiftsA_of_exec ror_isShift (fun _ => rfl),
    ?_, ?_, ?_, ?_, ?_, ?_, ?_, ?_, ?_, ?_, ?_, ?_, ?_, ?_, ?_, ?_⟩
  iterate 4 exact fun _ => modifies_shift asl_isShift (storing_opcodes_ineligible _ (by simp [Instr.opcode])) (fun _ => rfl)
  iterate 4 exact fun _ => modifies_shift lsr_isShift (storing_opcodes_ineligible _ (by simp [Instr.opcode])) (fun _ => rfl)
  iterate 4 exact fun _ => modifies_shift rol_isShift (storing_opcodes_ineligible _ (by simp [Instr.opcode])) (fun _ => rfl)
  all_goals exact fun _ => modifies_shift ror_isShift (storing_opcodes_ineligible _ (by simp [Instr.opcode])) (fun _ => rfl)

end Sys2Proof.ShiftRotateFamily

/-! SUPPORT. A branch as the statements write it: its target as a number, and the two outcomes of a branch on a condition
(43_control_flow.md R190; 30_encoding.md R114). -/

namespace Sys2Proof.ControlFlowFamily

open Sys2Proof Sys2Proof.Machine Sys2Proof.Claims Sys2Proof.EncodingFamily

theorem sext16_toNat (d : Byte) : (sext16 d).toNat = if d.toNat < 128 then d.toNat else d.toNat + 0xFF00 := by
  rw [sext16, BitVec.toNat_signExtend, BitVec.msb_eq_decide, BitVec.toNat_setWidth]
  simp only [decide_eq_true_eq]
  split <;> split <;> omega

theorem add_sext16_eq_target (next : Addr) (d : Byte) : next + sext16 d = target next d := by
  refine BitVec.eq_of_toNat_eq ?_
  rw [BitVec.toNat_add, sext16_toNat, target, BitVec.toNat_ofNat]

theorem branch_not_taken (d : Byte) (s : State) : branch false d s = s := rfl

theorem branch_taken (d : Byte) (s : State) :
    branch true d s = { s with
      pc := target s.pc d
      penalty := if (target s.pc d).toNat / 256 ≠ s.pc.toNat / 256 then 2 else 1 } := by
  simp only [branch, Config.branchPageRef, add_sext16_eq_target, hiByte_bne, decide_eq_true_eq, if_true]
  rfl

theorem branches_of_exec {i : Byte → Instr} {cond : Flags → Bool}
    (h : ∀ d s, exec (i d) s = .next (branch (cond s.p) d s)) : Branches i cond := by
  intro d s
  rw [h d s]
  refine ⟨fun hclear => ?_, fun hset => ?_⟩
  · rw [hclear, branch_not_taken]
  · rw [hset, branch_taken]

end Sys2Proof.ControlFlowFamily

/-! SUPPORT. What follows one CPU read, outcome by outcome, and what is unspecified after a refused one where only PC was to be
written (48_bus.md R300; 00_scope.md R11). -/

namespace Sys2Proof.ControlFlowFamily

open Sys2Proof Sys2Proof.Machine Sys2Proof.Claims Sys2Proof.LoadStoreFamily

section

variable {a : Addr} {spoil : State → State} {k : Byte → State → Result} {s : State}

theorem readThen_of_ok {v : Byte} {t : State} (h : memRead a s = .ok v t) : readThen a spoil k s = k v t := by
  simp only [readThen, h]

theorem readThen_of_failed {f : Failure} (h : memRead a s = .failed f) :
    readThen a spoil k s = .next (spoil s).busError := by
  simp only [readThen, h]

theorem readThen_of_fatal (h : memRead a s = .fatal) : readThen a spoil k s = .fault .fatalVrom := by
  simp only [readThen, h]

end

/-- PC alone is unspecified after a BusFault. -/
def openPc (c t : State) : State := { c with pc := t.pc }

theorem spoilPc_spoilsOnly : SpoilsOnly openPc State.spoilPc := fun _ => rfl

end Sys2Proof.ControlFlowFamily

/-! SUPPORT. The stack as the statements write it, at RAM keys below and above S: one push, one pull, and the end of an
instruction that used the stack (44_stack_and_flags.md R210 to R212; 10_state.md R21). -/

namespace Sys2Proof.ControlFlowFamily

open Sys2Proof Sys2Proof.Machine Sys2Proof.Claims

/-- The stack page is not mirrored: S designates its own RAM key. -/
theorem stackAddr_mod_ramSize (s : State) : s.stackAddr.toNat % Config.ramSize = 0x0100 + s.s.toNat := by
  rw [stackAddr_toNat, Config.ramSize]
  omega

theorem below_zero (s : State) : below s 0 = 0x0100 + s.s.toNat := by
  rw [below]
  omega

theorem above_zero (s : State) : above s 0 = 0x0100 + s.s.toNat := by
  rw [above]
  omega

theorem push_eq (v : Byte) (s : State) :
    push v s = { s with
      ram := s.ram.write (below s 0) v, s := s.s - 1#8, stackFault := s.stackFault || decide (s.s = 0x00#8) } := by
  rw [below_zero, ← stackAddr_mod_ramSize]
  rfl

/-- After a push the byte `k` below S is the byte `k + 1` below what S was. -/
theorem below_push (v : Byte) (s : State) {k : Nat} (hk : k < 256) : below (push v s) k = below s (k + 1) := by
  have hs : (push v s).s = s.s - 1#8 := rfl
  rw [below, below, hs]
  bv_omega

theorem pulled_eq (s : State) :
    pulled s = { s with s := s.s + 1#8, stackFault := s.stackFault || decide (s.s = 0xFF#8) } := rfl

/-- After a pull the byte `k` above S is the byte `k + 1` above what S was. -/
theorem above_pulled (s : State) (k : Nat) : above (pulled s) k = above s (k + 1) := by
  rw [above, above, pulled_eq]
  bv_omega

theorem popped_eq (s : State) : s.popped = s.ram.read (above s 0) := by
  rw [State.popped, State.readRam, stackAddr_mod_ramSize, above_zero]

theorem popped_pulled (s : State) : (pulled s).popped = s.ram.read (above s 1) := by
  rw [popped_eq, above_pulled]
  rfl

theorem stackEnd_eq (s : State) : stackEnd s = { s with runState := errorIf s.stackFault s } := by
  rw [stackEnd, errorIf]
  split <;> rfl

/-- The two pushes of an address, high byte first; S wraps if it was 0 or 1. -/
theorem pushAddr_stackBegin (v : Addr) (s : State) :
    pushAddr v (stackBegin s) = { s with
      ram := (s.ram.write (below s 0) (hiByte v)).write (below s 1) (loByte v)
      s := s.s - 2#8, stackFault := decide (s.s.toNat ≤ 1) } := by
  have hs : s.s - 1#8 - 1#8 = s.s - 2#8 := by bv_omega
  have hfault : (decide (s.s = 0x00#8) || decide (s.s - 1#8 = 0x00#8)) = decide (s.s.toNat ≤ 1) := by
    rw [← Bool.decide_or, decide_eq_decide]
    bv_omega
  rw [pushAddr, push_eq (loByte v), below_push _ _ (by decide), push_eq, ← hs, ← hfault]
  rfl

/-- The two pulls of an address; S wraps if it was 0xFE or 0xFF. -/
theorem pulled_pulled_stackBegin (s : State) :
    pulled (pulled (stackBegin s)) = { s with s := s.s + 2#8, stackFault := decide (0xFE ≤ s.s.toNat) } := by
  have hs : s.s + 1#8 + 1#8 = s.s + 2#8 := by bv_omega
  have hfault : (decide (s.s = 0xFF#8) || decide (s.s + 1#8 = 0xFF#8)) = decide (0xFE ≤ s.s.toNat) := by
    rw [← Bool.decide_or, decide_eq_decide]
    bv_omega
  rw [← hs, ← hfault]
  rfl

end Sys2Proof.ControlFlowFamily

/-! The statements about branches, jumps, subroutine call and return (43_control_flow.md R190 to R201). -/

namespace Sys2Proof.ControlFlowFamily

open Sys2Proof Sys2Proof.Machine Sys2Proof.Claims Sys2Proof.LoadStoreFamily

/-- Settles O20: all eight are the one branch, each on its own flag. -/
theorem branchesTakenAndNotTaken : Obligations.BranchesTakenAndNotTaken := by
  refine ⟨fun _ => codes_of_map_eq rfl, ?_, ?_, ?_, ?_, ?_, ?_, ?_, ?_⟩
  all_goals exact branches_of_exec (fun _ _ => rfl)

/-- Settles O21: JMP through a pointer is two reads, and what it is still to write after either is PC alone. -/
theorem jumpsSetPcAndThePointerStaysInItsPage : Obligations.JumpsSetPcAndThePointerStaysInItsPage := by
  refine ⟨fun _ => codes_of_map_eq rfl, fun _ _ => rfl, fun ptr s lo t hi u hlo hhi => ?_,
    fun ptr s f hlo => ⟨_, ?_, spoilPc_spoilsOnly s⟩, fun ptr s lo t f hlo hhi => ⟨_, ?_, spoilPc_spoilsOnly t⟩,
    fun ptr s hlo => ?_, fun ptr s lo t hlo hhi => ?_⟩
  · exact (readThen_of_ok hlo).trans (readThen_of_ok hhi)
  · exact readThen_of_failed hlo
  · exact (readThen_of_ok hlo).trans (readThen_of_failed hhi)
  · exact readThen_of_fatal hlo
  · exact (readThen_of_ok hlo).trans (readThen_of_fatal hhi)

/-- Settles O22: JSR pushes an address and jumps between the start and the end of its stack use. -/
theorem jsrPushesTheAddressOfItsThirdByte : Obligations.JsrPushesTheAddressOfItsThirdByte := by
  refine ⟨fun _ => codes_of_map_eq rfl, fun addr s => ?_⟩
  have hexec : exec (.jsr addr) s = .next (stackEnd ((pushAddr (s.pc - 1#16) (stackBegin s)).setPc addr)) := rfl
  rw [hexec, pushAddr_stackBegin, stackEnd_eq]
  rfl

/-- Settles O23: RTS pulls twice, and each byte is read where S then stands. -/
theorem rtsPullsPcAndAddsOne : Obligations.RtsPullsPcAndAddsOne := by
  refine ⟨codes_of_map_eq rfl, fun s => ?_⟩
  have hexec : exec .rts s = .next (stackEnd ((pulled (pulled (stackBegin s))).setPc
      (addrOf (pulled (pulled (stackBegin s))).popped (pulled (stackBegin s)).popped + 1#16))) := rfl
  have hlo : (pulled (stackBegin s)).popped = s.ram.read (above s 1) := popped_pulled _
  have hhi : (pulled (pulled (stackBegin s))).popped = s.ram.read (above s 2) := by
    rw [popped_pulled, above_pulled]
    rfl
  rw [hexec, hlo, hhi, pulled_pulled_stackBegin, stackEnd_eq]
  rfl

end Sys2Proof.ControlFlowFamily

/-! SUPPORT. A list of bytes pushed in order: where S then stands, the byte at each stack address, and every other byte
(44_stack_and_flags.md R210, R211; 10_state.md R21). -/

namespace Sys2Proof.StackFlagsFamily

open Sys2Proof Sys2Proof.Machine Sys2Proof.Claims Sys2Proof.ControlFlowFamily

/-- The bytes pushed in order, the first one deepest. -/
def pushAll (vs : List Byte) (s : State) : State := vs.foldl (fun u v => push v u) s

theorem pushAll_cons (v : Byte) (vs : List Byte) (s : State) : pushAll (v :: vs) s = pushAll vs (push v s) := rfl

/-- Pushes write RAM and S, and note a wrap of S. -/
theorem pushAll_frame (vs : List Byte) (s : State) : pushAll vs s = { s with
    ram := (pushAll vs s).ram, s := s.s - BitVec.ofNat 8 vs.length, stackFault := (pushAll vs s).stackFault } := by
  induction vs generalizing s with
  | nil => simp [pushAll]
  | cons v vs ih =>
    have hs : s.s - 1#8 - BitVec.ofNat 8 vs.length = s.s - BitVec.ofNat 8 (vs.length + 1) := by bv_omega
    rw [pushAll_cons, List.length_cons, ← hs]
    exact ih (push v s)

theorem pushAll_s (vs : List Byte) (s : State) : (pushAll vs s).s = s.s - BitVec.ofNat 8 vs.length := by
  rw [pushAll_frame]

/-- The 256 stack addresses are distinct. -/
theorem below_succ_ne_below_zero (s : State) {k : Nat} (hk : k < 255) : below s (k + 1) ≠ below s 0 := by
  rw [below, below]
  omega

theorem read_pushAll_other {vs : List Byte} {s : State} (hlen : vs.length ≤ 256) {key : Nat}
    (hkey : ∀ k, k < vs.length → key ≠ below s k) : (pushAll vs s).ram.read key = s.ram.read key := by
  induction vs generalizing s with
  | nil => rfl
  | cons v vs ih =>
    rw [List.length_cons] at hlen hkey
    have hrest (k : Nat) (hk : k < vs.length) : key ≠ below (push v s) k := by
      rw [below_push v s (by omega)]
      exact hkey (k + 1) (by omega)
    rw [pushAll_cons, ih (by omega) hrest, push_eq]
    exact Memory.read_write_other _ _ _ _ (hkey 0 (by omega)).symm

theorem read_pushAll_below {vs : List Byte} {s : State} (hram : s.ram.wf) (hlen : vs.length ≤ 256) {k : Nat}
    (hk : k < vs.length) : (pushAll vs s).ram.read (below s k) = vs[k] := by
  induction vs generalizing s k with
  | nil => cases hk
  | cons v vs ih =>
    rw [List.length_cons] at hlen
    have hwrite : (push v s).ram = s.ram.write (below s 0) v := by rw [push_eq]
    rw [pushAll_cons]
    cases k with
    | zero =>
      have hother (k : Nat) (hk : k < vs.length) : below s 0 ≠ below (push v s) k := by
        rw [below_push v s (by omega)]
        exact (below_succ_ne_below_zero s (by omega)).symm
      rw [read_pushAll_other (by omega) hother, hwrite]
      exact Memory.read_write_same _ _ _ hram.1
    | succ k =>
      have hk' : k < vs.length := Nat.lt_of_succ_lt_succ hk
      rw [← below_push v s (by omega)]
      exact ih (hwrite ▸ Memory.wf_write _ _ hram) (by omega) hk'

/-- The byte popped after `k` pulls is the byte `k` above S. -/
theorem popped_iterate_pulled (k : Nat) (s : State) : (pulled^[k] s).popped = s.ram.read (above s k) := by
  induction k generalizing s with
  | zero => exact popped_eq s
  | succ k ih =>
    rw [Function.iterate_succ_apply, ih, above_pulled]
    rfl

theorem iterate_pulled_s (k : Nat) (s : State) : (pulled^[k] s).s = s.s + BitVec.ofNat 8 k := by
  induction k generalizing s with
  | zero => exact (BitVec.add_zero _).symm
  | succ k ih =>
    have hs : s.s + 1#8 + BitVec.ofNat 8 k = s.s + BitVec.ofNat 8 (k + 1) := by bv_omega
    rw [Function.iterate_succ_apply, ih, ← hs]
    rfl

/-- The `k`-th byte above S after the pushes lies where the `k`-th last push put its byte. -/
theorem above_pushAll {vs : List Byte} {s : State} (hlen : vs.length ≤ 256) {k : Nat} (hk : k < vs.length) :
    above (pushAll vs s) (k + 1) = below s (vs.length - 1 - k) := by
  rw [above, below, pushAll_s]
  bv_omega

end Sys2Proof.StackFlagsFamily

/-! SUPPORT. What the instructions that push do to the state, the bytes pushed given as a list (44_stack_and_flags.md R212 to
R214; 43_control_flow.md R200; 45_system.md R230). -/

namespace Sys2Proof.StackFlagsFamily

open Sys2Proof Sys2Proof.Machine Sys2Proof.Claims Sys2Proof.ControlFlowFamily Sys2Proof.StateFamily

/-- From `s` to `t` the bytes `vs` were pushed, and nothing else was written but P, PC, the run state, what is local to one
instruction, and the count of free values. -/
def OnlyPushed (vs : List Byte) (s t : State) : Prop := t = { pushAll vs s with
  p := t.p, pc := t.pc, runState := t.runState, stackFault := t.stackFault, busFault := t.busFault, draws := t.draws }

theorem OnlyPushed.trans {vs : List Byte} {s t u : State} (h : OnlyPushed vs s t) (hu : u = { t with
    p := u.p, pc := u.pc, runState := u.runState, stackFault := u.stackFault, busFault := u.busFault, draws := u.draws }) :
    OnlyPushed vs s u := by
  rw [OnlyPushed] at h
  rw [h] at hu
  exact hu

theorem OnlyPushed.stackEnd {vs : List Byte} {s t : State} (h : OnlyPushed vs s t) : OnlyPushed vs s (stackEnd t) :=
  h.trans (by rw [stackEnd_eq])

theorem pushFrame_onlyPushed (ret : Addr) (brk : Bool) (s : State) :
    OnlyPushed [hiByte ret, loByte ret, s.p.pushed brk] s (pushFrame ret brk (stackBegin s)) := rfl

/-- A read of the ROM window changes nothing (49_mapper.md R322). -/
theorem memRead_rom_state {a : Addr} {v : Byte} {s t : State} (ha : 0x8000 ≤ a.toNat) (h : memRead a s = .ok v t) :
    t = s := by
  rw [memRead, windowOf_mapperRom ha] at h
  exact mapperRead_ok h

/-- BRK, whether its vector can be read or not (60_exceptions.md R357). -/
theorem brk_onlyPushed (s : State) : Ensures (exec .brk s)
    (OnlyPushed [hiByte (s.pc + 1#16), loByte (s.pc + 1#16), s.p.pushed true] s) := by
  intro t h
  have hlow : 0x8000 ≤ Config.vecIrq.toNat := by decide
  have hhigh : 0x8000 ≤ (Config.vecIrq + 1#16).toNat := by decide
  rcases enterInterrupt_next h with ⟨lo, u, hi, w, hlo, hhi, rfl⟩ | ⟨lo, u, f, hlo, hf, rfl⟩ | ⟨f, hf, rfl⟩
  · rw [memRead_rom_state hhigh hhi, memRead_rom_state hlow hlo]
    exact ((pushFrame_onlyPushed _ true s).trans rfl).stackEnd
  · rw [memRead_rom_state hlow hlo]
    exact (pushFrame_onlyPushed _ true s).trans rfl
  · exact (pushFrame_onlyPushed _ true s).trans rfl

theorem exec_onlyPushed {i : Instr} {s : State} (hpush : 0 < pushes i) :
    Ensures (exec i s) (fun t => ∃ vs, vs.length = pushes i ∧ OnlyPushed vs s t) := by
  cases i with
  | pha => exact ensures_next ⟨[s.a], rfl, OnlyPushed.stackEnd rfl⟩
  | php => exact ensures_next ⟨[s.p.pushed true], rfl, OnlyPushed.stackEnd rfl⟩
  | jsr addr => exact ensures_next ⟨[hiByte (s.pc - 1#16), loByte (s.pc - 1#16)], rfl, OnlyPushed.stackEnd rfl⟩
  | brk => exact (brk_onlyPushed s).imp (fun _ ht => ⟨_, rfl, ht⟩)
  | _ => exact absurd hpush (Nat.lt_irrefl 0)

theorem pushes_le_three (i : Instr) : pushes i ≤ 3 := by
  cases i with
  | pha | php | jsr _ | brk => exact Nat.le_of_ble_eq_true rfl
  | _ => exact Nat.zero_le 3

/-- The byte PHP and the interrupt entries push, by the weights of its bits (10_state.md R22). -/
theorem pushed_eq_statusPushed (p : Flags) (brk : Bool) : p.pushed brk = statusPushed p brk := by
  obtain ⟨c, z, i, d, b, v, n⟩ := p
  revert c z i d b v n brk
  decide

end Sys2Proof.StackFlagsFamily

/-! The statements about the stack and about the flag instructions (44_stack_and_flags.md R210 to R223). -/

namespace Sys2Proof.StackFlagsFamily

open Sys2Proof Sys2Proof.Machine Sys2Proof.Claims Sys2Proof.LoadStoreFamily Sys2Proof.ControlFlowFamily

/-- Settles O24: each pull reaches the address of the push it undoes, which no later push reached. -/
theorem pushesPopInReverseOrder : Obligations.PushesPopInReverseOrder := by
  refine fun s vs hram hlen => ⟨fun k hk => ?_, ?_⟩
  · have hlast : vs.length - 1 - k < vs.length := by omega
    calc (pulled^[k + 1] (pushAll vs s)).popped
      _ = (pushAll vs s).ram.read (below s (vs.length - 1 - k)) := by rw [popped_iterate_pulled, above_pushAll hlen hk]
      _ = vs[vs.length - 1 - k] := read_pushAll_below hram hlen hlast
      _ = vs.reverse.getD k 0#8 := by
        rw [List.getD_eq_getElem _ _ (by rwa [List.length_reverse]), List.getElem_reverse]
  · calc (pulled^[vs.length] (pushAll vs s)).s
      _ = s.s - BitVec.ofNat 8 vs.length + BitVec.ofNat 8 vs.length := by rw [iterate_pulled_s, pushAll_s]
      _ = s.s := BitVec.sub_add_cancel _ _

/-- Settles O50: the four instructions write memory by their pushes alone, and the vector reads of BRK change nothing. -/
theorem pushesKeepEveryOtherByte : Obligations.PushesKeepEveryOtherByte := by
  intro i s t hpush h
  obtain ⟨vs, hlen, ht⟩ := exec_onlyPushed hpush t h
  rw [OnlyPushed, pushAll_frame, hlen] at ht
  rw [ht]
  refine ⟨fun b hb => ?_, rfl, rfl, rfl, rfl, rfl, rfl, rfl, rfl, rfl⟩
  rw [← hlen] at hb
  exact read_pushAll_other (hlen ▸ (pushes_le_three i).trans (by decide)) hb

/-- Settles O25: each is one push or one pull between the start and the end of its stack use. -/
theorem stackInstructionsPushAndPull : Obligations.StackInstructionsPushAndPull := by
  refine ⟨codes_of_map_eq rfl, fun s => ?_, fun s => ?_, fun s => ?_, fun s => ?_⟩
  · have hexec : exec .pha s = .next (stackEnd (push s.a (stackBegin s))) := rfl
    rw [hexec, push_eq, stackEnd_eq]
    rfl
  · have hexec : exec .php s = .next (stackEnd (push (s.p.pushed true) (stackBegin s))) := rfl
    rw [hexec, push_eq, stackEnd_eq, pushed_eq_statusPushed]
    rfl
  · have hexec : exec .pla s = .next (stackEnd (loadA (pulled (stackBegin s)).popped (pulled (stackBegin s)))) := rfl
    rw [hexec, popped_pulled, stackEnd_eq]
    rfl
  · have hexec : exec .plp s = .next (stackEnd ((pulled (stackBegin s)).setP
        (s.p.load (pulled (stackBegin s)).popped))) := rfl
    rw [hexec, popped_pulled, stackEnd_eq]
    rfl

/-- Settles O26: each writes P with its one flag replaced. -/
theorem flagInstructionsSetOneFlag : Obligations.FlagInstructionsSetOneFlag :=
  ⟨codes_of_map_eq rfl, fun _ => rfl, fun _ => rfl, fun _ => rfl, fun _ => rfl, fun _ => rfl, fun _ => rfl, fun _ => rfl⟩

end Sys2Proof.StackFlagsFamily

/-! SUPPORT. An interrupt entry as the statements write it: the three-byte frame, its vector's two bytes in the ROM window, and
the end of its stack use (60_exceptions.md R357; 44_stack_and_flags.md R212; 20_memory.md R69). -/

namespace Sys2Proof.SystemFamily

open Sys2Proof Sys2Proof.Machine Sys2Proof.Claims Sys2Proof.ControlFlowFamily Sys2Proof.StackFlagsFamily

/-- The three pushes of the frame, return address first; S wraps if it was 0, 1 or 2. -/
theorem pushFrame_stackBegin (ret : Addr) (brk : Bool) (s : State) :
    pushFrame ret brk (stackBegin s) = { s with
      ram := ((s.ram.write (below s 0) (hiByte ret)).write (below s 1) (loByte ret)).write (below s 2) (statusPushed s.p brk)
      s := s.s - 3#8, p := { s.p with i := true }, stackFault := decide (s.s.toNat ≤ 2) } := by
  have hs : s.s - 2#8 - 1#8 = s.s - 3#8 := by bv_omega
  have hkey : below (pushAddr ret (stackBegin s)) 0 = below s 2 := by
    rw [pushAddr, below_push _ _ (by decide), below_push _ _ (by decide)]
    rfl
  have hfault : (decide (s.s.toNat ≤ 1) || decide (s.s - 2#8 = 0x00#8)) = decide (s.s.toNat ≤ 2) := by
    rw [← Bool.decide_or, decide_eq_decide]
    bv_omega
  rw [pushFrame, push_eq, hkey, pushAddr_stackBegin, pushed_eq_statusPushed, ← hs, ← hfault]
  rfl

theorem stackEnd_pushFrame (ret handler : Addr) (brk : Bool) (s : State) :
    stackEnd ((pushFrame ret brk (stackBegin s)).setPc handler) = entered s ret brk handler := by
  rw [stackEnd_eq, pushFrame_stackBegin]
  rfl

theorem memRead_rom_byte {a : Addr} {v : Byte} {s : State} {c : Cartridge} (ha : 0x8000 ≤ a.toNat) (hc : s.cart = some c)
    (hv : c.readROM a.toNat = .ok v) : memRead a s = .ok v s := by
  obtain ⟨w, hw, hread⟩ := memRead_rom ha hc
  rw [hv] at hw
  injection hw with hw
  rw [hread, hw]

/-- An entry whose vector can be read, whatever is done before its end. -/
theorem enterInterrupt_of_vectorIs {ret vector : Addr} {brk : Bool} {finish spoil : State → State} {s : State} {lo hi : Byte}
    (hlow : 0x8000 ≤ vector.toNat) (hhigh : vector.toNat < 0xFFFF) (h : VectorIs s vector.toNat lo hi) :
    enterInterrupt ret brk vector finish spoil s =
      .next (stackEnd (finish ((pushFrame ret brk (stackBegin s)).setPc (addrOf hi lo)))) := by
  obtain ⟨c, hc, hlo, hhi⟩ := h
  have hcart : (pushFrame ret brk (stackBegin s)).cart = some c :=
    (pushFrame_cart ret brk (stackBegin s)).trans ((stackBegin_cart s).trans hc)
  have hnext : (vector + 1#16).toNat = vector.toNat + 1 := by bv_omega
  rw [← hnext] at hhi
  exact (readThen_of_ok (memRead_rom_byte hlow hcart hlo)).trans
    (readThen_of_ok (memRead_rom_byte (by omega) hcart hhi))

end Sys2Proof.SystemFamily

/-! SUPPORT. RTI as the statements write it: three pulls, and the end of its stack use (45_system.md R231). -/

namespace Sys2Proof.SystemFamily

open Sys2Proof Sys2Proof.Machine Sys2Proof.Claims Sys2Proof.ControlFlowFamily Sys2Proof.StackFlagsFamily

/-- Three pulls; S wraps if it was 0xFD, 0xFE or 0xFF. -/
theorem pulled_pulled_pulled_stackBegin (s : State) :
    pulled (pulled (pulled (stackBegin s))) =
      { s with s := s.s + 3#8, stackFault := decide (0xFD ≤ s.s.toNat) } := by
  have hs : s.s + 2#8 + 1#8 = s.s + 3#8 := by bv_omega
  have hfault : (decide (0xFE ≤ s.s.toNat) || decide (s.s + 2#8 = 0xFF#8)) = decide (0xFD ≤ s.s.toNat) := by
    rw [← Bool.decide_or, decide_eq_decide]
    bv_omega
  rw [pulled_pulled_stackBegin, pulled_eq, ← hs, ← hfault]

/-- The flags popped first do not matter to the two pulls after them. -/
theorem returnFromInterrupt_eq_pulls (s : State) : returnFromInterrupt s = stackEnd
    { pulled (pulled (pulled (stackBegin s))) with
      p := flagsFrom s.p (pulled (stackBegin s)).popped
      pc := addrOf (pulled (pulled (pulled (stackBegin s)))).popped (pulled (pulled (stackBegin s))).popped
      rtiCount := s.rtiCount + 1 } := rfl

theorem exec_rti (s : State) : exec .rti s = .next { s with
    p := flagsFrom s.p (s.ram.read (above s 1)), pc := addrOf (s.ram.read (above s 3)) (s.ram.read (above s 2))
    s := s.s + 3#8, rtiCount := s.rtiCount + 1
    stackFault := decide (0xFD ≤ s.s.toNat), runState := errorIf (decide (0xFD ≤ s.s.toNat)) s } := by
  have hstatus : (pulled (stackBegin s)).popped = s.ram.read (above s 1) := popped_iterate_pulled 1 (stackBegin s)
  have hlo : (pulled (pulled (stackBegin s))).popped = s.ram.read (above s 2) := popped_iterate_pulled 2 (stackBegin s)
  have hhi : (pulled (pulled (pulled (stackBegin s)))).popped = s.ram.read (above s 3) :=
    popped_iterate_pulled 3 (stackBegin s)
  have hexec : exec .rti s = .next (returnFromInterrupt s) := rfl
  rw [hexec, returnFromInterrupt_eq_pulls, hstatus, hlo, hhi, pulled_pulled_pulled_stackBegin, stackEnd_eq]
  rfl

end Sys2Proof.SystemFamily

/-! SUPPORT. The diagnostic counters (10_state.md R31): no operation an instruction is made of writes them, but RTI. -/

namespace Sys2Proof.SystemFamily

open Sys2Proof Sys2Proof.Machine Sys2Proof.Claims Sys2Proof.StateFamily Sys2Proof.StackFlagsFamily

/-- `nmi_count` and `rti_count` are as they were. -/
def KeepsCounters (s t : State) : Prop := t.nmiCount = s.nmiCount ∧ t.rtiCount = s.rtiCount

namespace KeepsCounters

theorem refl (s : State) : KeepsCounters s s := ⟨rfl, rfl⟩

theorem trans {s t u : State} (h : KeepsCounters s t) (h' : KeepsCounters t u) : KeepsCounters s u :=
  ⟨h'.1.trans h.1, h'.2.trans h.2⟩

theorem of_busEffect {s t : State} (h : BusEffect s t) : KeepsCounters s t := by
  rw [h.frame]
  exact ⟨rfl, rfl⟩

theorem setP (s : State) (q : Flags) : KeepsCounters s (s.setP q) := ⟨rfl, rfl⟩

theorem charge (pl : Place) (op : Byte) (s : State) : KeepsCounters s (pl.charge op s) := by
  unfold Place.charge
  split <;> exact ⟨rfl, rfl⟩

theorem branch (cond : Bool) (d : Byte) (s : State) : KeepsCounters s (branch cond d s) := by
  cases cond <;> exact ⟨rfl, rfl⟩

theorem stackEnd {s t : State} (h : KeepsCounters s t) : KeepsCounters s (stackEnd t) := by
  rw [ControlFlowFamily.stackEnd_eq]
  exact h

theorem of_onlyPushed {vs : List Byte} {s t : State} (h : OnlyPushed vs s t) : KeepsCounters s t := by
  rw [OnlyPushed, pushAll_frame] at h
  rw [h]
  exact ⟨rfl, rfl⟩

end KeepsCounters

section

variable {s : State} {spoil : State → State} (hspoil : ∀ t, KeepsCounters t (spoil t))
include hspoil

theorem readThen_keepsCounters {a : Addr} {k : Byte → State → Result} (hk : ∀ v t, Ensures (k v t) (KeepsCounters t)) :
    Ensures (readThen a spoil k s) (KeepsCounters s) := by
  intro r h
  rcases readThen_next h with ⟨v, t, hv, hr⟩ | ⟨_, _, rfl⟩
  · exact (KeepsCounters.of_busEffect (memRead_busEffect hv)).trans (hk v t r hr)
  · exact hspoil s

theorem writeThen_keepsCounters {a : Addr} {v : Byte} {k : State → Result} (hk : ∀ t, Ensures (k t) (KeepsCounters t)) :
    Ensures (writeThen a v spoil k s) (KeepsCounters s) := by
  intro r h
  rcases writeThen_next h with ⟨t, ht, hr⟩ | ⟨_, _, rfl⟩
  · exact (KeepsCounters.of_busEffect (memWrite_busEffect ht)).trans (hk t r hr)
  · exact hspoil s

theorem readOperand_keepsCounters {op : Byte} {form : State → Place} {effect : Byte → State → State}
    (heffect : ∀ m t, KeepsCounters t (effect m t)) : Ensures (readOperand op form spoil effect s) (KeepsCounters s) :=
  (readThen_keepsCounters hspoil (fun m t => ensures_next (heffect m t))).imp
    (fun _ => (KeepsCounters.charge (form s) op s).trans)

theorem modifyOperand_keepsCounters {op : Byte} {form : State → Place} {compute : Byte → State → ShiftResult}
    {flags : ShiftResult → Flags → Flags} : Ensures (modifyOperand op form spoil compute flags s) (KeepsCounters s) :=
  (readThen_keepsCounters hspoil
    (fun _ _ => writeThen_keepsCounters hspoil (fun u => ensures_next (KeepsCounters.setP u _)))).imp
    (fun _ => (KeepsCounters.charge (form s) op s).trans)

end

theorem storeOperand_keepsCounters {op : Byte} {form : State → Place} {v : Byte} {s : State} :
    Ensures (storeOperand op form v s) (KeepsCounters s) :=
  (writeThen_keepsCounters KeepsCounters.refl (fun t => ensures_next (.refl t))).imp
    (fun _ => (KeepsCounters.charge (form s) op s).trans)

/-- The instructions by how they reach the state: a store, a read-modify-write, the pointer of JMP, the pushes, the pulls, a
branch, registers alone, and else the read of an operand. -/
theorem exec_keepsCounters {i : Instr} (hi : i ≠ .rti) (s : State) : Ensures (exec i s) (KeepsCounters s) := by
  cases i with
  | staZp _ | staZpX _ | staAbs _ | staAbsX _ | staAbsY _ | staIndX _ | staIndY _ | stxZp _ | stxZpY _ | stxAbs _
  | styZp _ | styZpX _ | styAbs _ => exact storeOperand_keepsCounters
  | incZp _ | incZpX _ | incAbs _ | incAbsX _ | decZp _ | decZpX _ | decAbs _ | decAbsX _ | aslZp _ | aslZpX _ | aslAbs _
  | aslAbsX _ | lsrZp _ | lsrZpX _ | lsrAbs _ | lsrAbsX _ | rolZp _ | rolZpX _ | rolAbs _ | rolAbsX _ | rorZp _ | rorZpX _
  | rorAbs _ | rorAbsX _ =>
    refine modifyOperand_keepsCounters (fun _ => ?_)
    exact ⟨rfl, rfl⟩
  | jmpInd _ =>
    have hspoil (t : State) : KeepsCounters t t.spoilPc := ⟨rfl, rfl⟩
    exact readThen_keepsCounters hspoil
      (fun _ _ => readThen_keepsCounters hspoil (fun _ _ => ensures_next ⟨rfl, rfl⟩))
  | pha | php | jsr _ | brk =>
    refine (exec_onlyPushed ?_).imp (fun _ ⟨_, _, ht⟩ => .of_onlyPushed ht)
    exact Nat.zero_lt_succ _
  | rti => exact absurd rfl hi
  | rts | pla | plp =>
    refine ensures_next (.stackEnd ?_)
    exact ⟨rfl, rfl⟩
  | bcc _ | bcs _ | beq _ | bmi _ | bne _ | bpl _ | bvc _ | bvs _ => exact ensures_next (.branch _ _ s)
  | ldaImm _ | ldxImm _ | ldyImm _ | adcImm _ | sbcImm _ | andImm _ | oraImm _ | eorImm _ | cmpImm _ | cpxImm _ | cpyImm _
  | tax | tay | txa | tya | tsx | txs | inx | iny | dex | dey | aslAcc | lsrAcc | rolAcc | rorAcc | jmpAbs _
  | clc | sec | cli | sei | cld | sed | clv | nop => exact ensures_next ⟨rfl, rfl⟩
  | _ => refine readOperand_keepsCounters (fun _ => ?_) (fun _ _ => ?_) <;> exact ⟨rfl, rfl⟩

/-- What an instruction leaves of the counters (45_system.md R231, R233). -/
theorem exec_counters {i : Instr} {s t : State} (h : exec i s = .next t) :
    t.nmiCount = s.nmiCount ∧ t.rtiCount = s.rtiCount + (if i = .rti then 1 else 0) := by
  by_cases hi : i = .rti
  · subst hi
    rw [exec_rti] at h
    injection h with h
    subst h
    exact ⟨rfl, rfl⟩
  · rw [if_neg hi]
    exact exec_keepsCounters hi s t h

end Sys2Proof.SystemFamily

/-! The statements about the system instructions (45_system.md R230 to R233). -/

namespace Sys2Proof.SystemFamily

open Sys2Proof Sys2Proof.Machine Sys2Proof.Claims Sys2Proof.StateFamily Sys2Proof.MemoryFamily Sys2Proof.EncodingFamily
  Sys2Proof.LoadStoreFamily

/-- Settles O47: the frame of `Touches` holds all that is the host's, and the counters are written by RTI alone. -/
theorem instructionsDoNotReachHostState : Obligations.InstructionsDoNotReachHostState := by
  intro i s t h
  obtain ⟨l, ht, _⟩ := exec_touchesOwn i s t h
  obtain ⟨hnmi, hrti⟩ := exec_counters h
  refine ⟨hnmi, ?_, ?_, ?_, ?_, ?_, ?_, ?_, hrti, ht.runState⟩
  all_goals rw [ht.frame]

/-- Settles O27: with a cartridge the vector is read from ROM; without one, its first read is refused after the frame. -/
theorem brkEntersTheIrqHandler : Obligations.BrkEntersTheIrqHandler := by
  refine ⟨codes_of_map_eq rfl, fun s lo hi hvector => ?_,
    fun s hcart => ⟨_, enterInterrupt_noCart (by decide) hcart, ?_⟩⟩
  · rw [← stackEnd_pushFrame]
    exact enterInterrupt_of_vectorIs (by decide) (by decide) hvector
  · rw [pushFrame_stackBegin]
    exact ⟨rfl, rfl, rfl, rfl⟩

/-- Settles O28: three pulls, of the status byte and of PC, low byte first. -/
theorem rtiRestoresStatusAndPcAndCounts : Obligations.RtiRestoresStatusAndPcAndCounts :=
  ⟨codes_of_map_eq rfl, exec_rti⟩

/-- Settles O29: the single step executes NOP one past its byte, and counts its base cost. -/
theorem nopChangesNothing : Obligations.NopChangesNothing := by
  refine ⟨codes_of_map_eq rfl, fun _ => rfl, fun s hidle hpenalty hstack hbus hop => ?_⟩
  have hfetch : fetchBytes (encode .nop).length s.pc s = .ok (encode .nop) := by
    change fetchBytes 1 s.pc s = .ok [0xEA#8]
    simp only [fetchBytes, hop]
  have hcost : Instr.nop.baseCost = 2 := rfl
  have hexec (u : State) : exec .nop u = .next u := rfl
  rw [step_idle hidle, runOne_encode hfetch rfl, hexec, hcost, onNext, settle_none rfl, hpenalty, hstack, hbus]
  obtain ⟨_, hrun, _, _⟩ := hidle
  rw [hrun]
  rfl

end Sys2Proof.SystemFamily

/-! SUPPORT. What an access of a PPU slot does, one rule per slot with a side effect of its own (46_ppu_registers.md R243, R245
to R250). -/

namespace Sys2Proof.PpuFamily

open Sys2Proof Sys2Proof.Machine

/-- Bit 7 of a Status read is `vblank` (R243). -/
theorem statusByte_getLsbD_seven (u : Ppu) (free : Byte) : (statusByte u free).getLsbD 7 = u.vblank := by
  rw [statusByte, BitVec.getLsbD_append, BitVec.getLsbD_append, BitVec.getLsbD_append]
  simp

/-- Bit 5 of a Status read is `sprOverflow` (R243). -/
theorem statusByte_getLsbD_five (u : Ppu) (free : Byte) : (statusByte u free).getLsbD 5 = u.sprOverflow := by
  rw [statusByte, BitVec.getLsbD_append, BitVec.getLsbD_append]
  simp

/-- A Status read clears `vblank`; the toggle stays (R243, R247). -/
theorem ppuRead_status (s : State) : ppuRead .status s = .ok (statusByte s.ppu (Config.freeByte s.draws))
    { s with ppu := { s.ppu with vblank := false }, draws := s.draws + 1 } := by
  have htoggle : (s.ppu.toggle && !Config.statusReadResetsToggle) = s.ppu.toggle := Bool.and_true _
  simp only [ppuRead, readStatus, htoggle]
  rfl

/-- A sprite address is a byte, so it needs no wrap (R245, 48_bus.md R308). -/
theorem sprAddr_mod (u : Ppu) : u.sprAddr.toNat % 256 = u.sprAddr.toNat := Nat.mod_eq_of_lt u.sprAddr.isLt

theorem ppuRead_spriteMemData (s : State) : ppuRead .spriteMemData s = .ok (s.spr.read s.ppu.sprAddr.toNat)
    (if Config.sprDataReadIncrements then s.setPpu s.ppu.stepSprAddr else s) := by
  rw [ppuRead, readSpriteData, sprRead, sprAddr_mod]

theorem ppuWrite_spriteMemData (v : Byte) (s : State) : ppuWrite .spriteMemData v s =
    .ok () { s with spr := s.spr.write s.ppu.sprAddr.toNat v, ppu := s.ppu.stepSprAddr } := by
  rw [ppuWrite, writeSpriteData, sprWrite, sprAddr_mod]
  rfl

theorem ppuRead_videoMemData_of_ok {s t : State} {v : Byte} (h : vidRead s.ppu.vaddr.toNat s = .ok v t) :
    ppuRead .videoMemData s = .ok v (s.setPpu s.ppu.stepVaddr) := by
  rw [ppuRead, readVideoData, h, vidRead_ok h]

theorem ppuRead_videoMemData_of_failed {s : State} {f : Failure} (h : vidRead s.ppu.vaddr.toNat s = .failed f) :
    ppuRead .videoMemData s = .failed f := by
  rw [ppuRead, readVideoData, h]

theorem ppuRead_videoMemData_of_fatal {s : State} (h : vidRead s.ppu.vaddr.toNat s = .fatal) :
    ppuRead .videoMemData s = .fatal := by
  rw [ppuRead, readVideoData, h]

/-- A video write reaches a memory, never a PPU register (48_bus.md R307). -/
theorem vidWrite_ppu {a : Nat} {v : Byte} {s t : State} (h : vidWrite a v s = .ok () t) : t.ppu = s.ppu := by
  rcases vidWrite_ok h with rfl | rfl <;> rfl

/-- Below 0x2000 lies video ROM, which no video write reaches (48_bus.md R307). -/
theorem vidWrite_rom {a : Nat} (h : a % 0x4000 < 0x2000) (v : Byte) (s : State) : vidWrite a v s = .failed .vramWrite :=
  if_pos h

theorem ppuWrite_videoMemData_of_ok {v : Byte} {s t : State} (h : vidWrite s.ppu.vaddr.toNat v s = .ok () t) :
    ppuWrite .videoMemData v s = .ok () (t.setPpu s.ppu.stepVaddr) := by
  rw [ppuWrite, writeVideoData, h, ← vidWrite_ppu h]

theorem ppuWrite_videoMemData_of_failed {v : Byte} {s : State} {f : Failure}
    (h : vidWrite s.ppu.vaddr.toNat v s = .failed f) : ppuWrite .videoMemData v s = .failed f := by
  rw [ppuWrite, writeVideoData, h]

/-- The first Scroll write of a pair latches the vertical half (R246). -/
theorem writeScroll_first {u : Ppu} (h : u.toggle = false) (v : Byte) :
    u.writeScroll v = { u with scrollV := v, toggle := true } := by
  rw [Ppu.writeScroll, h]
  rfl

/-- The second Scroll write of a pair latches the horizontal half (R246). -/
theorem writeScroll_second {u : Ppu} (h : u.toggle = true) (v : Byte) :
    u.writeScroll v = { u with scrollH := v, toggle := false } := by
  rw [Ppu.writeScroll, h]
  rfl

/-- The first VideoMemAddress write of a pair latches the high byte (R248). -/
theorem writeVaddr_first {u : Ppu} (h : u.toggle = false) (v : Byte) :
    u.writeVaddr v = { u with vaddr := addrOf v (loByte u.vaddr), toggle := true } := by
  rw [Ppu.writeVaddr, h]
  rfl

/-- The second VideoMemAddress write of a pair latches the low byte (R248). -/
theorem writeVaddr_second {u : Ppu} (h : u.toggle = true) (v : Byte) :
    u.writeVaddr v = { u with vaddr := addrOf (hiByte u.vaddr) v, toggle := false } := by
  rw [Ppu.writeVaddr, h]
  rfl

/-- Control1 rejects 8x16 sprites (R241). -/
theorem writeControl1_of_set {v : Byte} (h : v.getLsbD 5 = true) (s : State) :
    writeControl1 v s = .failed .illegalOperation := if_pos h

theorem writeControl1_of_clear {v : Byte} (h : v.getLsbD 5 = false) (s : State) :
    writeControl1 v s = .ok () (s.setPpu { s.ppu with ctrl1 := v }) := if_neg (Bool.eq_false_iff.mp h)

end Sys2Proof.PpuFamily

/-! The statements about the PPU register slots (46_ppu_registers.md R240 to R250). -/

namespace Sys2Proof.PpuFamily

open Sys2Proof Sys2Proof.Machine

/-- Settles O55: one rule per slot; whether a SpriteMemData read steps its address is a constant the model leaves open. -/
theorem ppuReadsHaveTheirSideEffects : Obligations.PpuReadsHaveTheirSideEffects := by
  refine ⟨fun s => ⟨_, ppuRead_status s, statusByte_getLsbD_seven _ _, statusByte_getLsbD_five _ _⟩, fun s => ?_,
    fun _ _ _ => ppuRead_videoMemData_of_ok, fun _ _ => ppuRead_videoMemData_of_failed,
    fun _ => ppuRead_videoMemData_of_fatal, fun s n hn => ⟨Config.freeByte s.draws, ?_⟩⟩
  · rw [ppuRead_spriteMemData]
    cases Config.sprDataReadIncrements with
    | true => exact .inl rfl
    | false => exact .inr rfl
  · simp only [List.mem_cons, List.not_mem_nil, or_false] at hn
    rcases hn with rfl | rfl | rfl | rfl | rfl <;> rfl

/-- Settles O56: the slots that store their byte do so by definition; the shared toggle and the two data ports have their
rules. -/
theorem ppuWritesHaveTheirSideEffects : Obligations.PpuWritesHaveTheirSideEffects := by
  refine ⟨fun _ s h => writeControl1_of_set h s, fun _ s h => writeControl1_of_clear h s, fun _ _ => rfl, fun _ _ => rfl,
    fun _ _ => rfl, ppuWrite_spriteMemData, fun v s h => ?_, fun v s h => ?_, fun v s h => ?_, fun v s h => ?_,
    fun _ _ _ => ppuWrite_videoMemData_of_ok, fun v s h => ppuWrite_videoMemData_of_failed (vidWrite_rom h v s)⟩
  · rw [ppuWrite, writeScroll_first h]
    rfl
  · rw [ppuWrite, writeScroll_second h]
    rfl
  · rw [ppuWrite, writeVaddr_first h]
    rfl
  · rw [ppuWrite, writeVaddr_second h]
    rfl

end Sys2Proof.PpuFamily

/-! SUPPORT. The PPU's composition over the memories themselves: a video byte, a palette group, a tile and its two kinds of
symbol as the statements write them (47_ppu_rendering.md R273 to R277; 48_bus.md R306). -/

namespace Sys2Proof.RenderFamily

open Sys2Proof Sys2Proof.Machine Sys2Proof.Claims

/-- The row and column numbers of an `n` by `m` grid, row by row, are the quotients and remainders by `m`. -/
theorem map_range_mul {α : Type} (f : Nat → Nat → α) (n m : Nat) :
    (List.range (n * m)).map (fun k => f (k / m) (k % m)) = (List.range n).flatMap (fun r => (List.range m).map (f r)) := by
  induction n with
  | zero => simp
  | succ n ih =>
    have hrow : ∀ k ∈ List.range m, f ((n * m + k) / m) ((n * m + k) % m) = f n k := fun k hk => by
      have hlt : k < m := List.mem_range.mp hk
      rw [Nat.mul_comm, Nat.mul_add_div (Nat.zero_lt_of_lt hlt), Nat.div_eq_of_lt hlt, Nat.mul_add_mod, Nat.mod_eq_of_lt hlt,
        Nat.add_zero]
    rw [Nat.succ_mul, List.range_add, List.map_append, ih, List.range_succ, List.flatMap_append, List.flatMap_singleton,
      List.map_map]
    exact congrArg _ (List.map_congr_left hrow)

theorem colorOf_eq_colorIn (v : Byte) : colorOf v = colorIn v := by
  refine BitVec.eq_of_toNat_eq ?_
  rw [colorOf, colorIn, BitVec.extractLsb'_toNat, BitVec.toNat_ofNat, Nat.shiftRight_zero]

theorem bitOf_eq_toNat (v : Byte) (k : Nat) : bitOf v k = (v.getLsbD k).toNat := (Nat.toNat_testBit _ _).symm

theorem patternBase_getLsbD (v : Byte) (k : Nat) : patternBase (v.getLsbD k) = 0x1000 * bitOf v k := by
  rw [bitOf_eq_toNat, patternBase]
  cases v.getLsbD k <;> rfl

theorem patternTable_le (v : Byte) (k : Nat) : 0x1000 * bitOf v k ≤ 0x1000 := by
  rw [bitOf]
  omega

/-- The two bits of `nt_select` are the low bits of Control1 (10_state.md R36). -/
theorem ntSelect_getLsbD (u : Ppu) {k : Nat} (hk : k < 2) : (u.ntSelect.getLsbD k).toNat = bitOf u.ctrl1 k := by
  rw [bitOf_eq_toNat, Ppu.ntSelect, BitVec.getLsbD_extractLsb', Nat.zero_add, decide_eq_true hk, Bool.true_and]

theorem paletteGroup_lt (s : State) (c : Cartridge) (base tx ty : Nat) : paletteGroup s c base tx ty < 4 := by
  have hbyte : (videoByte s c (base + 0x03C0 + 8 * (ty / 4) + tx / 4)).toNat < 256 := BitVec.isLt _
  unfold paletteGroup
  dsimp only
  split <;> split <;> omega

/-- The palette's four aliases (48_bus.md R306). -/
theorem palIndex_eq (a : Nat) : palIndex a = if a % 32 ∈ [0x10, 0x14, 0x18, 0x1C] then a % 32 - 0x10 else a % 32 := by
  have halias : (a % 32 % 4 = 0 ∧ a % 32 ≥ 16) ↔ a % 32 ∈ [0x10, 0x14, 0x18, 0x1C] := by
    simp only [List.mem_cons, List.not_mem_nil, or_false]
    omega
  simp only [palIndex, halias]

/-- A VROM page holds every address below 0x2000 (49_mapper.md R325). -/
theorem readVROM_of_lt {c : Cartridge} {a : Nat} (hvrom : 1 ≤ c.vromPages) (ha : a < 0x2000) :
    c.readVROM a = some (c.vrom.read a) := by
  refine if_neg (Nat.not_le.mpr ?_)
  simp only [Config.vromPageSize]
  omega

section

variable {s : State} {c : Cartridge} (hcart : s.cart = some c) (hvrom : 1 ≤ c.vromPages)
include hcart hvrom

/-- With a cartridge that has VROM every video read succeeds (48_bus.md R306). -/
theorem vidByte_eq_videoByte {a : Nat} (ha : a < 0x4000) : vidByte s a = videoByte s c a := by
  unfold vidByte vidRead videoByte
  rw [Nat.mod_eq_of_lt ha]
  dsimp only
  by_cases hrom : a < 0x2000
  · simp only [if_pos hrom, hcart, readVROM_of_lt hvrom hrom]
  · by_cases hnt : a < 0x3F00
    · simp only [if_neg hrom, if_pos hnt, ntIndex_eq]
    · simp only [if_neg hrom, if_neg hnt, palIndex_eq]

/-- The palette group of a tile that lies in one of the four pages (47_ppu_rendering.md R275). -/
theorem attrGroup_eq_paletteGroup {base tx ty : Nat} (hbase : base ≤ 0x2C00) (htx : tx < 32) (hty : ty < 30) :
    attrGroup s base tx ty = paletteGroup s c base tx ty := by
  have hbyte : (videoByte s c (base + 0x03C0 + 8 * (ty / 4) + tx / 4)).toNat < 256 := BitVec.isLt _
  unfold attrGroup paletteGroup
  rw [vidByte_eq_videoByte hcart hvrom (by omega)]
  dsimp only
  generalize (videoByte s c (base + 0x03C0 + 8 * (ty / 4) + tx / 4)).toNat = v at hbyte ⊢
  by_cases hlow : ty % 4 < 2 <;> by_cases hleft : tx % 4 < 2
  · rw [if_pos hlow, if_pos hleft, show 4 * (ty % 4 / 2) + 2 * (tx % 4 / 2) = 0 by omega]
    omega
  · rw [if_pos hlow, if_neg hleft, show 4 * (ty % 4 / 2) + 2 * (tx % 4 / 2) = 2 by omega]
    rfl
  · rw [if_neg hlow, if_pos hleft, show 4 * (ty % 4 / 2) + 2 * (tx % 4 / 2) = 4 by omega]
    rfl
  · rw [if_neg hlow, if_neg hleft, show 4 * (ty % 4 / 2) + 2 * (tx % 4 / 2) = 6 by omega]
    omega

/-- A tile lies in a pattern table, and its palette group in the palette (47_ppu_rendering.md R274). -/
theorem tilePixel_eq_tileEntry {ptbase tile group palbase r : Nat} (hpt : ptbase ≤ 0x1000) (htile : tile < 256)
    (hgroup : group < 4) (hpal : palbase ≤ 0x3F10) (hr : r < 8) (fliph flipv : Bool) (k : Nat) :
    tilePixel s ptbase tile group palbase fliph flipv r k = tileEntry s c ptbase tile group palbase fliph flipv r k := by
  have hsr : (if flipv then 7 - r else r) < 8 := by split <;> omega
  unfold tilePixel tileEntry
  simp only [← bitOf_eq_toNat]
  generalize (if flipv then 7 - r else r) = sr at hsr ⊢
  generalize 7 - (if fliph then 7 - k else k) = bit
  rw [vidByte_eq_videoByte hcart hvrom (by omega), vidByte_eq_videoByte hcart hvrom (by omega), Nat.add_right_comm]
  have hpix : 2 * bitOf (videoByte s c (ptbase + 16 * tile + sr + 8)) bit +
      bitOf (videoByte s c (ptbase + 16 * tile + sr)) bit < 4 := by
    simp only [bitOf]
    omega
  rw [vidByte_eq_videoByte hcart hvrom (by omega), colorOf_eq_colorIn]

theorem tileSymbol_eq_tileEntries {ptbase tile group palbase : Nat} (hpt : ptbase ≤ 0x1000) (htile : tile < 256)
    (hgroup : group < 4) (hpal : palbase ≤ 0x3F10) (fliph flipv : Bool) :
    tileSymbol s ptbase tile group palbase fliph flipv = tileEntries s c ptbase tile group palbase fliph flipv := by
  rw [tileSymbol, tileEntries, ← map_range_mul]
  refine List.map_congr_left (fun k hk => ?_)
  have hlt : k < 64 := List.mem_range.mp hk
  exact tilePixel_eq_tileEntry hcart hvrom hpt htile hgroup hpal (by omega) fliph flipv _

theorem backgroundSymbol_eq_backgroundTile (r k : Nat) : backgroundSymbol s r k = backgroundTile s c r k := by
  unfold backgroundSymbol backgroundTile
  simp only [ntSelect_getLsbD s.ppu Nat.zero_lt_two, ntSelect_getLsbD s.ppu Nat.one_lt_two, Ppu.bgPt, patternBase_getLsbD]
  have hx : (s.ppu.scrollH.toNat / 8 + k) % 32 < 32 := Nat.mod_lt _ (by decide)
  have hy : (s.ppu.scrollV.toNat / 8 + r) % 30 < 30 := Nat.mod_lt _ (by decide)
  rw [vidByte_eq_videoByte hcart hvrom (by omega), attrGroup_eq_paletteGroup hcart hvrom (by omega) hx hy,
    tileSymbol_eq_tileEntries hcart hvrom (patternTable_le _ _) (BitVec.isLt _) (paletteGroup_lt _ _ _ _ _) (by decide)]

theorem spriteSymbol_eq_spriteTile {n : Nat} (hn : n < 64) : spriteSymbol s n = spriteTile s c n := by
  have hread : ∀ k, k < 256 → sprRead k s = s.spr.read k := fun k hk => by rw [sprRead, Nat.mod_eq_of_lt hk]
  have hgroup : ∀ v : Byte, (v.extractLsb' 0 2).toNat = v.toNat % 4 := fun v => by
    rw [BitVec.extractLsb'_toNat, Nat.shiftRight_zero]
  have hlayer : ∀ v : Byte, v.getLsbD 5 = true ↔ bitOf v 5 = 1 := fun v => by
    rw [bitOf_eq_toNat, Bool.toNat_eq_one]
  unfold spriteSymbol spriteTile
  rw [hread _ (by omega), hread _ (by omega), hread _ (by omega), hread _ (by omega)]
  simp only [Ppu.sprPt, patternBase_getLsbD, hgroup, hlayer]
  rw [tileSymbol_eq_tileEntries hcart hvrom (patternTable_le _ _) (BitVec.isLt _) (Nat.mod_lt _ (by decide)) (le_refl _)]

end

/-- The rows the background pass goes through, without those the mode skips, are the rows shown (R272, R273). -/
theorem filter_rowShown (s : State) : (List.range (backgroundRows s.ppu)).filter (rowShown s.mode) = rowsShown s := by
  unfold rowsShown backgroundRows
  cases s.mode with
  | full => exact List.filter_true _
  | short => split <;> decide

/-- The background pass is the rows shown, each over its columns (R273). -/
theorem backgroundPass_eq (s : State) : backgroundPass s = (rowsShown s).flatMap (fun r =>
    (List.range (if s.ppu.scrollH.toNat % 8 = 0 then 32 else 33)).map (backgroundSymbol s r)) := by
  rw [backgroundPass, filter_rowShown]
  rfl

theorem length_backgroundPass (s : State) :
    (backgroundPass s).length = (rowsShown s).length * if s.ppu.scrollH.toNat % 8 = 0 then 32 else 33 := by
  simp only [backgroundPass_eq, List.length_flatMap, List.length_map, List.length_range, List.map_const', List.sum_replicate,
    smul_eq_mul]

theorem spritePass_eq (s : State) : spritePass s = (List.range 64).map (fun k => spriteSymbol s (63 - k)) := by
  rw [spritePass, List.range_eq_range', List.reverse_range', List.map_map]
  rfl

end Sys2Proof.RenderFamily

/-! SUPPORT. `update()` as the statements write it: when a frame cannot be composed, and what a composed one leaves
(47_ppu_rendering.md R271, R279; 48_bus.md R309). -/

namespace Sys2Proof.RenderFamily

open Sys2Proof Sys2Proof.Machine

/-- A host call of `update()` is one frame (70_reset_and_hazards.md R404). -/
theorem step_update {s : State} {rest : List HostCall} (hrun : s.run = none) (hcalls : s.calls = .update :: rest) :
    step s = onNext (returning .nothing) (updateFrame { s with calls := rest }) := by
  simp only [step, stepMachine, hrun, hcalls, hostCall]

/-- Without a visible pass, or with VROM, the frame can be composed (R274). -/
theorem frameFault_eq_none {s : State}
    (h : s.ppu.bgVisible = false ∧ s.ppu.sprVisible = false ∨ ∃ c, s.cart = some c ∧ c.vromPages ≠ 0) :
    frameFault s = none := by
  rcases h with ⟨hbg, hspr⟩ | ⟨c, hcart, hvrom⟩
  · rw [frameFault, hbg, hspr]
    rfl
  · simp only [frameFault, hcart, if_neg hvrom, ite_self]

theorem frameFault_of_noCart {s : State} (hvisible : s.ppu.bgVisible = true ∨ s.ppu.sprVisible = true)
    (hcart : s.cart = none) : frameFault s = some .updateNoCartridge := by
  rw [frameFault, if_pos (Bool.or_eq_true_iff.mpr hvisible), hcart]

theorem frameFault_of_noVrom {s : State} {c : Cartridge} (hvisible : s.ppu.bgVisible = true ∨ s.ppu.sprVisible = true)
    (hcart : s.cart = some c) (hvrom : c.vromPages = 0) : frameFault s = some .fatalVrom := by
  rw [frameFault, if_pos (Bool.or_eq_true_iff.mpr hvisible), hcart]
  exact if_pos hvrom

/-- 8x16 sprites are not composed (R279). -/
theorem updateFrame_of_sprSize {s : State} (hspr : s.ppu.sprSize = true) : updateFrame s = .fault .sprites8x16 :=
  if_pos hspr

theorem updateFrame_of_frameFault {s : State} {f : Fault} (hspr : s.ppu.sprSize = false) (hfault : frameFault s = some f) :
    updateFrame s = .fault f := by
  rw [updateFrame, if_neg (Bool.eq_false_iff.mp hspr), hfault]

/-- A composed frame: built with vblank clear, then vblank set, and an NMI requested if enabled (R271). -/
theorem updateFrame_of_composed {s : State} (hspr : s.ppu.sprSize = false) (hfault : frameFault s = none) :
    updateFrame s = .next { s with
      ppu := { s.ppu with vblank := true, spr0Hit := sprite0After s.ppu (Config.freeBit s.draws) }
      nmiPending := s.nmiPending || s.ppu.nmiEnable
      draws := s.draws + 1
      frame := composeFrame { s with ppu := { s.ppu with vblank := false } } } := by
  rw [updateFrame, if_neg (Bool.eq_false_iff.mp hspr), hfault]
  cases hnmi : s.ppu.nmiEnable with
  | true =>
    rw [Bool.or_true]
    exact congrArg _ (if_pos hnmi)
  | false =>
    rw [Bool.or_false]
    exact congrArg _ (if_neg (Bool.eq_false_iff.mp hnmi))

end Sys2Proof.RenderFamily

/-! The statements about the frame (47_ppu_rendering.md R270 to R282). -/

namespace Sys2Proof.RenderFamily

open Sys2Proof Sys2Proof.Machine Sys2Proof.Claims

/-- Settles O59: each symbol is the statement's, at the rows shown and from sprite slot 63 down. -/
theorem backgroundPassEmitsEveryVisibleTile : Obligations.BackgroundPassEmitsEveryVisibleTile := by
  refine ⟨fun s c hcart hvrom => ⟨?_, ?_, ?_⟩, fun s => ⟨?_, ?_⟩⟩
  · rw [backgroundPass_eq]
    exact List.flatMap_congr (fun r _ => List.map_congr_left (fun k _ => backgroundSymbol_eq_backgroundTile hcart hvrom r k))
  · rw [spritePass_eq]
    exact List.map_congr_left (fun k _ => spriteSymbol_eq_spriteTile hcart hvrom (by omega))
  · rw [composeFrame, vidByte_eq_videoByte hcart hvrom (by decide), colorOf_eq_colorIn]
    rfl
  · rw [length_backgroundPass, rowsShown]
    cases s.mode with
    | full => rw [List.length_range]
    | short => rfl
  · rw [spritePass_eq, List.length_map, List.length_range]

/-- Settles O58: a frame that can be composed has its rule, and so has each of the three faults. -/
theorem updateSetsVblankAndRequestsTheNmi : Obligations.UpdateSetsVblankAndRequestsTheNmi := by
  refine ⟨fun s rest hrun hcalls hspr hready => ⟨sprite0After s.ppu (Config.freeBit s.draws), ?_⟩,
    fun s rest hrun hcalls hspr => ?_, fun s rest hrun hcalls hspr hvisible hcart => ?_,
    fun s rest c hrun hcalls hspr hvisible hcart hvrom => ?_⟩
  · rw [step_update hrun hcalls, updateFrame_of_composed (s := { s with calls := rest }) hspr (frameFault_eq_none hready)]
    rfl
  · rw [step_update hrun hcalls, updateFrame_of_sprSize (s := { s with calls := rest }) hspr]
    rfl
  · rw [step_update hrun hcalls, updateFrame_of_frameFault (s := { s with calls := rest }) hspr
      (frameFault_of_noCart hvisible hcart)]
    rfl
  · rw [step_update hrun hcalls, updateFrame_of_frameFault (s := { s with calls := rest }) hspr
      (frameFault_of_noVrom hvisible hcart hvrom)]
    rfl

end Sys2Proof.RenderFamily

/-! SUPPORT. What one instruction costs and whether it answers: `penalty` is at most 2, a refused access puts the CPU in Error,
and the only stop is a fatal video-ROM read (10_state.md R34; 00_scope.md R11; 49_mapper.md R325). -/

namespace Sys2Proof.ExceptionFamily

open Sys2Proof Sys2Proof.Machine Sys2Proof.Claims Sys2Proof.StateFamily

/-- What bounds the clocks of the instruction in progress: its penalty, and that a BusFault has put the CPU in Error. -/
def CostBounded (s : State) : Prop := s.penalty ≤ 2 ∧ (s.busFault = true → s.runState = .error)

/-- A cartridge without VROM is injected, so that a video-ROM read is fatal (49_mapper.md R325). -/
def NoVrom (s : State) : Prop := ∃ c, s.cart = some c ∧ c.vromPages = 0

/-- From `s` to `t` the bound on the clocks is kept, and so is the cartridge. -/
structure KeepsCost (s t : State) : Prop where
  bounded : CostBounded s → CostBounded t
  cart : t.cart = s.cart

/-- From `s` the result is a next state within the bound, or the stop of a fatal video-ROM read. -/
def Answers (s : State) (r : Result) : Prop :=
  (∃ t, r = .next t ∧ KeepsCost s t) ∨ r = .fault .fatalVrom ∧ NoVrom s

/-- An operation that reaches neither what bounds the clocks nor the cartridge. -/
theorem KeepsCost.of_eq {s t : State} (penalty : t.penalty = s.penalty) (busFault : t.busFault = s.busFault)
    (runState : t.runState = s.runState) (cart : t.cart = s.cart) : KeepsCost s t := by
  refine ⟨?_, cart⟩
  rw [CostBounded, CostBounded, penalty, busFault, runState]
  exact id

theorem KeepsCost.refl (s : State) : KeepsCost s s := ⟨id, rfl⟩

theorem KeepsCost.trans {s t u : State} (h : KeepsCost s t) (h' : KeepsCost t u) : KeepsCost s u :=
  ⟨h'.bounded ∘ h.bounded, h'.cart.trans h.cart⟩

theorem KeepsCost.of_busEffect {s t : State} (h : BusEffect s t) : KeepsCost s t := by
  rw [h.frame]
  exact .of_eq rfl rfl rfl rfl

theorem KeepsCost.busError {s t : State} (h : KeepsCost s t) : KeepsCost s t.busError :=
  ⟨fun hs => ⟨(h.bounded hs).1, fun _ => rfl⟩, h.cart⟩

theorem KeepsCost.stackEnd {s t : State} (h : KeepsCost s t) : KeepsCost s (stackEnd t) := by
  refine h.trans ?_
  rw [Machine.stackEnd]
  split
  · exact ⟨fun ht => ⟨ht.1, fun _ => rfl⟩, rfl⟩
  · exact .refl t

theorem KeepsCost.setPc (v : Addr) (s : State) : KeepsCost s (s.setPc v) := .of_eq rfl rfl rfl rfl

theorem KeepsCost.push (v : Byte) (s : State) : KeepsCost s (push v (stackBegin s)) := .of_eq rfl rfl rfl rfl

theorem KeepsCost.pull (s : State) : KeepsCost s (pulled (stackBegin s)) := .of_eq rfl rfl rfl rfl

theorem KeepsCost.pushAddr (v : Addr) (s : State) : KeepsCost s (pushAddr v (stackBegin s)) := by
  rw [ControlFlowFamily.pushAddr_stackBegin]
  exact .of_eq rfl rfl rfl rfl

theorem KeepsCost.pushFrame (ret : Addr) (brk : Bool) (s : State) : KeepsCost s (pushFrame ret brk (stackBegin s)) := by
  rw [SystemFamily.pushFrame_stackBegin]
  exact .of_eq rfl rfl rfl rfl

theorem KeepsCost.pullTwo (s : State) : KeepsCost s (pulled (pulled (stackBegin s))) := by
  rw [ControlFlowFamily.pulled_pulled_stackBegin]
  exact .of_eq rfl rfl rfl rfl

theorem KeepsCost.returnFromInterrupt (s : State) : KeepsCost s (returnFromInterrupt s) := by
  rw [SystemFamily.returnFromInterrupt_eq_pulls, SystemFamily.pulled_pulled_pulled_stackBegin]
  refine KeepsCost.stackEnd ?_
  exact .of_eq rfl rfl rfl rfl

/-- A page crossing costs one clock (30_encoding.md R115). -/
theorem KeepsCost.charge (pl : Place) (op : Byte) (s : State) : KeepsCost s (pl.charge op s) := by
  rw [Place.charge]
  split
  · exact ⟨fun hs => ⟨Nat.le_succ 1, hs.2⟩, rfl⟩
  · exact .refl s

/-- A branch costs one clock more, or two (43_control_flow.md R190). -/
theorem KeepsCost.branch (cond : Bool) (d : Byte) (s : State) : KeepsCost s (branch cond d s) := by
  cases cond with
  | false => exact .refl s
  | true =>
    refine ⟨fun hs => ⟨?_, hs.2⟩, rfl⟩
    rw [ControlFlowFamily.branch_taken]
    dsimp only
    split <;> decide

theorem answers_next {s t : State} (h : KeepsCost s t) : Answers s (.next t) := .inl ⟨t, rfl, h⟩

theorem KeepsCost.answers {s t : State} {r : Result} (h : KeepsCost s t) (hr : Answers t r) : Answers s r := by
  rcases hr with ⟨u, rfl, hu⟩ | ⟨rfl, c, hc, hvrom⟩
  · exact answers_next (h.trans hu)
  · exact .inr ⟨rfl, c, h.cart ▸ hc, hvrom⟩

/-- A video read is fatal only where the cartridge has no VROM page (49_mapper.md R325). -/
theorem vidRead_fatal {a : Nat} {s : State} (h : vidRead a s = .fatal) : NoVrom s := by
  unfold vidRead at h
  dsimp only at h
  split at h
  · split at h
    · cases h
    · rename_i c hc
      refine ⟨c, hc, Nat.eq_zero_of_not_pos (fun hvrom => ?_)⟩
      rw [RenderFamily.readVROM_of_lt hvrom ‹_›] at h
      cases h
  · split at h <;> cases h

theorem ppuRead_fatal {n : Slot} {s : State} (h : ppuRead n s = .fatal) : NoVrom s := by
  cases n with
  | videoMemData =>
    cases hv : vidRead s.ppu.vaddr.toNat s with
    | fatal => exact vidRead_fatal hv
    | ok v t => simp only [ppuRead, readVideoData, hv] at h; cases h
    | failed f => simp only [ppuRead, readVideoData, hv] at h; cases h
  | _ => cases h

theorem mapperRead_ne_fatal (op : Cartridge → Except Failure Byte) (s : State) : mapperRead op s ≠ .fatal := by
  unfold mapperRead
  split
  · nofun
  · split <;> nofun

theorem memRead_fatal {a : Addr} {s : State} (h : memRead a s = .fatal) : NoVrom s := by
  unfold memRead at h
  split at h
  · cases h
  · exact ppuRead_fatal h
  · cases h
  · exact absurd h (mapperRead_ne_fatal _ s)
  · exact absurd h (mapperRead_ne_fatal _ s)

theorem vidWrite_ne_fatal (a : Nat) (v : Byte) (s : State) : vidWrite a v s ≠ .fatal := by
  unfold vidWrite
  dsimp only
  split
  · nofun
  · split <;> nofun

theorem ppuWrite_ne_fatal (n : Slot) (v : Byte) (s : State) : ppuWrite n v s ≠ .fatal := by
  cases n with
  | control1 =>
    rw [ppuWrite, writeControl1]
    split <;> nofun
  | videoMemData =>
    rw [ppuWrite, writeVideoData]
    split
    · nofun
    · nofun
    · exact absurd ‹_› (vidWrite_ne_fatal _ v s)
  | _ => nofun

/-- No CPU write is fatal (48_bus.md R301, R307). -/
theorem memWrite_ne_fatal (a : Addr) (v : Byte) (s : State) : memWrite a v s ≠ .fatal := by
  rcases Nat.lt_or_ge a.toNat 0x4000 with hlow | hhigh
  · rcases Nat.lt_or_ge a.toNat 0x2000 with hram | hppu
    · rw [memWrite_ram hram]
      nofun
    · rw [memWrite_ppu hppu hlow]
      exact ppuWrite_ne_fatal _ v s
  · obtain ⟨f, hf⟩ := memWrite_high (v := v) (st := s) hhigh
    rw [hf]
    nofun

section

variable {s : State} {spoil : State → State} (hspoil : ∀ t, KeepsCost t (spoil t))
include hspoil

theorem answers_readThen {a : Addr} {k : Byte → State → Result} (hk : ∀ v t, Answers t (k v t)) :
    Answers s (readThen a spoil k s) := by
  unfold readThen
  split
  · exact (KeepsCost.of_busEffect (memRead_busEffect ‹_›)).answers (hk _ _)
  · exact answers_next (hspoil s).busError
  · exact .inr ⟨rfl, memRead_fatal ‹_›⟩

theorem answers_writeThen {a : Addr} {v : Byte} {k : State → Result} (hk : ∀ t, Answers t (k t)) :
    Answers s (writeThen a v spoil k s) := by
  unfold writeThen
  split
  · exact (KeepsCost.of_busEffect (memWrite_busEffect ‹_›)).answers (hk _)
  · exact answers_next (hspoil s).busError
  · exact absurd ‹_› (memWrite_ne_fatal a v s)

theorem answers_readOperand {op : Byte} {form : State → Place} {effect : Byte → State → State}
    (heffect : ∀ m t, KeepsCost t (effect m t)) : Answers s (readOperand op form spoil effect s) :=
  (KeepsCost.charge (form s) op s).answers (answers_readThen hspoil (fun m t => answers_next (heffect m t)))

theorem answers_modifyOperand {op : Byte} {form : State → Place} {compute : Byte → State → ShiftResult}
    {flags : ShiftResult → Flags → Flags} : Answers s (modifyOperand op form spoil compute flags s) :=
  (KeepsCost.charge (form s) op s).answers (answers_readThen hspoil
    (fun _ _ => answers_writeThen hspoil (fun _ => answers_next (.of_eq rfl rfl rfl rfl))))

end

theorem answers_storeOperand {s : State} {op : Byte} {form : State → Place} {v : Byte} :
    Answers s (storeOperand op form v s) :=
  (KeepsCost.charge (form s) op s).answers (answers_writeThen .refl (fun t => answers_next (.refl t)))

/-- The accesses of BRK and of JMP through a pointer leave PC alone unspecified. -/
theorem spoilPc_keepsCost (s : State) : KeepsCost s s.spoilPc := .of_eq rfl rfl rfl rfl

/-- BRK: the frame is in RAM, then the vector is read (60_exceptions.md R357). -/
theorem answers_brk (s : State) : Answers s (exec .brk s) :=
  (KeepsCost.pushFrame (s.pc + 1#16) true s).answers (answers_readThen spoilPc_keepsCost
    (fun _ _ => answers_readThen spoilPc_keepsCost (fun _ u => answers_next (KeepsCost.setPc _ u).stackEnd)))

/-- Every instruction, by how it reaches the bus: the operand forms, the pointer of JMP, the stack, a branch, and else registers
alone. -/
theorem exec_answers (i : Instr) (s : State) : Answers s (exec i s) := by
  cases i with
  | ldaZp _ | ldaZpX _ | ldaAbs _ | ldaAbsX _ | ldaAbsY _ | ldaIndX _ | ldaIndY _ | ldxZp _ | ldxZpY _ | ldxAbs _
  | ldxAbsY _ | ldyZp _ | ldyZpX _ | ldyAbs _ | ldyAbsX _ | adcZp _ | adcZpX _ | adcAbs _ | adcAbsX _ | adcAbsY _
  | adcIndX _ | adcIndY _ | sbcZp _ | sbcZpX _ | sbcAbs _ | sbcAbsX _ | sbcAbsY _ | sbcIndX _ | sbcIndY _ | andZp _
  | andZpX _ | andAbs _ | andAbsX _ | andAbsY _ | andIndX _ | andIndY _ | oraZp _ | oraZpX _ | oraAbs _ | oraAbsX _
  | oraAbsY _ | oraIndX _ | oraIndY _ | eorZp _ | eorZpX _ | eorAbs _ | eorAbsX _ | eorAbsY _ | eorIndX _ | eorIndY _
  | cmpZp _ | cmpZpX _ | cmpAbs _ | cmpAbsX _ | cmpAbsY _ | cmpIndX _ | cmpIndY _ | cpxZp _ | cpxAbs _ | cpyZp _ | cpyAbs _
  | bitZp _ | bitAbs _ =>
    refine answers_readOperand (fun _ => ?_) (fun _ _ => ?_) <;> exact .of_eq rfl rfl rfl rfl
  | staZp _ | staZpX _ | staAbs _ | staAbsX _ | staAbsY _ | staIndX _ | staIndY _ | stxZp _ | stxZpY _ | stxAbs _
  | styZp _ | styZpX _ | styAbs _ => exact answers_storeOperand
  | incZp _ | incZpX _ | incAbs _ | incAbsX _ | decZp _ | decZpX _ | decAbs _ | decAbsX _ | aslZp _ | aslZpX _ | aslAbs _
  | aslAbsX _ | lsrZp _ | lsrZpX _ | lsrAbs _ | lsrAbsX _ | rolZp _ | rolZpX _ | rolAbs _ | rolAbsX _ | rorZp _ | rorZpX _
  | rorAbs _ | rorAbsX _ =>
    refine answers_modifyOperand (fun _ => ?_)
    exact .of_eq rfl rfl rfl rfl
  | jmpInd _ =>
    exact answers_readThen spoilPc_keepsCost
      (fun _ _ => answers_readThen spoilPc_keepsCost (fun _ _ => answers_next (.of_eq rfl rfl rfl rfl)))
  | brk => exact answers_brk s
  | pha | php => exact answers_next (KeepsCost.push _ s).stackEnd
  | pla | plp =>
    refine answers_next ((KeepsCost.pull s).trans ?_).stackEnd
    exact .of_eq rfl rfl rfl rfl
  | jsr _ => exact answers_next ((KeepsCost.pushAddr _ s).trans (.setPc _ _)).stackEnd
  | rts => exact answers_next ((KeepsCost.pullTwo s).trans (.setPc _ _)).stackEnd
  | rti => exact answers_next (.returnFromInterrupt s)
  | bcc _ | bcs _ | beq _ | bmi _ | bne _ | bpl _ | bvc _ | bvs _ => exact answers_next (.branch _ _ s)
  | _ => exact answers_next (.of_eq rfl rfl rfl rfl)

end Sys2Proof.ExceptionFamily

/-! The statement that every instruction answers (60_exceptions.md R350, R360). -/

namespace Sys2Proof.ExceptionFamily

open Sys2Proof Sys2Proof.Machine

/-- Settles O52: an instruction answers but for a fatal read, which needs a cartridge without VROM. -/
theorem everyInstructionAnswersANextStateUnlessVromIsMissing :
    Obligations.EveryInstructionAnswersANextStateUnlessVromIsMissing := by
  intro i s
  rcases exec_answers i s with ⟨t, hexec, _⟩ | ⟨hexec, c, hc, hvrom⟩ <;> rw [hexec]
  · exact ⟨nofun, nofun, fun _ => ⟨t, rfl⟩⟩
  · refine ⟨nofun, ?_, fun h => absurd hvrom (h c hc)⟩
    rintro _ ⟨⟩
    exact ⟨rfl, c, hc, hvrom⟩

end Sys2Proof.ExceptionFamily

/-! SUPPORT. The entry of an interrupt by the host or by a pending NMI: what is left when its vector can be read, and that it
ends in Error when no cartridge is injected (60_exceptions.md R352, R353, R355, R357). -/

namespace Sys2Proof.ExceptionFamily

open Sys2Proof Sys2Proof.Machine Sys2Proof.Claims Sys2Proof.StateFamily Sys2Proof.EncodingFamily Sys2Proof.SystemFamily

theorem step_hostCall {s : State} {call : HostCall} {rest : List HostCall} (hrun : s.run = none)
    (hcalls : s.calls = call :: rest) : step s = hostCall call { s with calls := rest } := by
  simp only [step, stepMachine, hrun, hcalls]

theorem step_singleStep {s : State} (hrun : s.run = none) (hcalls : s.calls = []) : step s = singleStep s := by
  simp only [step, stepMachine, hrun, hcalls]

/-- An injected cartridge has bytes at a vector (20_memory.md R69). -/
theorem exists_vectorIs {s : State} {c : Cartridge} {v : Nat} (hc : s.cart = some c) (hv : 0x8000 ≤ v) :
    ∃ lo hi, VectorIs s v lo hi :=
  ⟨_, _, c, hc, readROM_ok hv, readROM_ok (by omega)⟩

/-- `s` with what is local to one instruction or entry clear. -/
def cleared (s : State) : State := { s with penalty := 0, stackFault := false, busFault := false }

theorem cleared_eq {s : State} (hpenalty : s.penalty = 0) (hstack : s.stackFault = false) (hbus : s.busFault = false) :
    cleared s = s := by
  cases s
  cases hpenalty
  cases hstack
  cases hbus
  rfl

theorem beginInstr_zero (s : State) : beginInstr 0 s = cleared s := by
  rw [beginInstr, BitVec.add_zero, cleared]

theorem irqEntry_of_vectorIs {s : State} {lo hi : Byte} (h : VectorIs s 0xFFFE lo hi) :
    irqEntry s = .next (entered s s.pc false (addrOf hi lo)) := by
  rw [irqEntry, enterInterrupt_of_vectorIs (by decide) (by decide) h, id, stackEnd_pushFrame]

theorem stackEnd_countNmi (s : State) : stackEnd s.countNmi = (stackEnd s).countNmi := by
  rw [ControlFlowFamily.stackEnd_eq, ControlFlowFamily.stackEnd_eq]
  rfl

theorem nmiEntry_of_vectorIs {s : State} {lo hi : Byte} (h : VectorIs s 0xFFFA lo hi) :
    nmiEntry s = .next (entered s s.pc false (addrOf hi lo)).countNmi := by
  rw [nmiEntry, enterInterrupt_of_vectorIs (by decide) (by decide) h, stackEnd_countNmi, stackEnd_pushFrame]

/-- Without a cartridge an entry ends at its first vector read, in Error and with free clocks (log 14). -/
theorem onNext_settle_enterInterrupt_noCart {ret vector : Addr} {brk : Bool} {finish spoil : State → State} {s : State}
    (hv : 0x8000 ≤ vector.toNat) (hc : s.cart = none) (hspoil : ∀ t, Touches [.pc] t (spoil t)) (r : Option RunCall)
    (cost : Nat) :
    ∃ t n, onNext (settle r cost) (enterInterrupt ret brk vector finish spoil s) = .next t ∧ t.runState = .error ∧
      t.run = none ∧ t.nmiPending = s.nmiPending ∧ t.calls = s.calls ∧ t.returned = .clocks n := by
  have htouch : Touches [.s, .i, .pc] s (spoil (pushFrame ret brk (stackBegin s))) :=
    ((Touches.stackBegin s).widen.trans ((Touches.pushFrame _ ret brk).mono (by simp))).trans
      ((hspoil _).mono (by simp))
  obtain ⟨draws, n, hsettle⟩ :=
    MemoryFamily.settle_busError r cost (spoil (pushFrame ret brk (stackBegin s)))
  rw [enterInterrupt_noCart hv hc]
  refine ⟨_, n, congrArg _ hsettle, rfl, rfl, ?_, ?_, rfl⟩ <;> rw [htouch.frame]

end Sys2Proof.ExceptionFamily

/-! SUPPORT. The host's calls `IRQ()` and `NMI()`, and the delivery of a pending NMI, as the statements write them
(60_exceptions.md R352 to R356). -/

namespace Sys2Proof.ExceptionFamily

open Sys2Proof Sys2Proof.Machine Sys2Proof.Claims Sys2Proof.StateFamily Sys2Proof.EncodingFamily

theorem hostIrq_taken {s : State} (hstate : s.runState = .running) (hi : s.p.i = false) :
    hostIrq s = onNext (settle none 7) (irqEntry (cleared s)) := by
  rw [hostIrq, if_neg (by simp [hstate, hi]), beginInstr_zero]
  rfl

theorem hostNmi_taken {s : State} (hstate : s.runState = .running) :
    hostNmi s = onNext (settle none 7) (nmiEntry (cleared s)) := by
  rw [hostNmi, if_neg (not_not.mpr hstate), beginInstr_zero]
  rfl

theorem deliverNmi_eq (r : Option RunCall) (s : State) :
    deliverNmi r s = onNext (settle r 7) (nmiEntry (cleared { s with nmiPending := false })) := by
  rw [deliverNmi, beginInstr_zero]
  rfl

/-- What the delivery of the pending NMI leaves before its clocks are counted (60_exceptions.md R353, R355). -/
def nmiEntered (s : State) (handler : Addr) : State :=
  { entered s s.pc false handler with nmiPending := false, nmiCount := s.nmiCount + 1 }

theorem nmiEntered_running_iff {s : State} (hstate : s.runState = .running) (handler : Addr) :
    (nmiEntered s handler).runState = .running ↔ ¬ s.s.toNat < 3 := by
  have herror : (nmiEntered s handler).runState = errorIf (decide (s.s.toNat ≤ 2)) s := rfl
  by_cases hle : s.s.toNat ≤ 2
  · simp [herror, errorIf, hle, Nat.lt_succ_of_le hle]
  · simp [herror, errorIf, hle, hstate, mt Nat.le_of_lt_succ hle]

theorem startRun_pending {s : State} (hstate : s.runState = .running) (hnmi : s.nmiPending = true) (budget : Nat) :
    startRun budget s = deliverNmi (some { budget := budget, spent := 0 }) s := by
  rw [startRun, if_neg (not_not.mpr hstate), if_pos hnmi]

theorem startRun_not_pending {s : State} (hstate : s.runState = .running) (hnmi : s.nmiPending = false) (budget : Nat) :
    startRun budget s = .next { s with run := some { budget := budget, spent := 0 } } := by
  rw [startRun, if_neg (not_not.mpr hstate), if_neg (Bool.eq_false_iff.mp hnmi)]

theorem singleStep_pending {s : State} (hstate : s.runState = .running) (hnmi : s.nmiPending = true) :
    singleStep s = deliverNmi none s := by
  rw [singleStep, if_neg (not_not.mpr hstate), if_pos hnmi]

section

variable {s : State} {lo hi : Byte} (hpenalty : s.penalty = 0) (hstack : s.stackFault = false) (hbus : s.busFault = false)
include hpenalty hstack hbus

theorem hostIrq_of_vectorIs (hstate : s.runState = .running) (hi' : s.p.i = false) (hrun : s.run = none)
    (h : VectorIs s 0xFFFE lo hi) :
    hostIrq s = .next { entered s s.pc false (addrOf hi lo) with stackFault := false, returned := .clocks 7 } := by
  rw [hostIrq_taken hstate hi', cleared_eq hpenalty hstack hbus, irqEntry_of_vectorIs h, onNext,
    settle_none (t := entered s s.pc false _) hbus]
  simp only [entered, hpenalty, hrun]

theorem hostNmi_of_vectorIs (hstate : s.runState = .running) (hrun : s.run = none) (h : VectorIs s 0xFFFA lo hi) :
    hostNmi s = .next { entered s s.pc false (addrOf hi lo) with
      stackFault := false, nmiCount := s.nmiCount + 1, returned := .clocks 7 } := by
  rw [hostNmi_taken hstate, cleared_eq hpenalty hstack hbus, nmiEntry_of_vectorIs h, onNext,
    settle_none (t := (entered s s.pc false _).countNmi) hbus]
  simp only [entered, State.countNmi, countUp_eq, hpenalty, hrun]

theorem deliverNmi_of_vectorIs (h : VectorIs s 0xFFFA lo hi) (r : Option RunCall) :
    deliverNmi r s = .next (settle r 7 (nmiEntered s (addrOf hi lo))) := by
  have hclear : cleared { s with nmiPending := false } = { s with nmiPending := false } := cleared_eq hpenalty hstack hbus
  rw [deliverNmi_eq, hclear, nmiEntry_of_vectorIs (s := { s with nmiPending := false }) h]
  rfl

/-- S below 3 ends the run in the entry; else it goes on with the clocks of the entry spent (44_stack_and_flags.md R212). -/
theorem startRun_of_vectorIs (hstate : s.runState = .running) (hnmi : s.nmiPending = true) (h : VectorIs s 0xFFFA lo hi)
    (budget : Nat) :
    startRun budget s = .next { entered s s.pc false (addrOf hi lo) with
      stackFault := false, nmiPending := false, nmiCount := s.nmiCount + 1
      run := if s.s.toNat < 3 then none else some { budget := budget, spent := 7 }
      returned := if s.s.toNat < 3 then .clocks 7 else s.returned } := by
  rw [startRun_pending hstate hnmi, deliverNmi_of_vectorIs hpenalty hstack hbus h]
  have hbus' : (nmiEntered s (addrOf hi lo)).busFault = false := hbus
  by_cases hwrap : s.s.toNat < 3
  · rw [settle_stopped hbus' (fun h => (nmiEntered_running_iff hstate _).mp h hwrap)]
    simp only [nmiEntered, entered, hpenalty, if_pos hwrap]
  · rw [settle_running hbus' ((nmiEntered_running_iff hstate _).mpr hwrap)]
    simp only [nmiEntered, entered, hpenalty, if_neg hwrap]

theorem singleStep_of_vectorIs (hstate : s.runState = .running) (hnmi : s.nmiPending = true) (hrun : s.run = none)
    (h : VectorIs s 0xFFFA lo hi) :
    singleStep s = .next { entered s s.pc false (addrOf hi lo) with
      stackFault := false, nmiPending := false, nmiCount := s.nmiCount + 1, returned := .clocks 7 } := by
  rw [singleStep_pending hstate hnmi, deliverNmi_of_vectorIs hpenalty hstack hbus h,
    settle_none (t := nmiEntered s _) hbus]
  simp only [nmiEntered, entered, hpenalty, hrun]

end

theorem hostIrq_noCart {s : State} (hstate : s.runState = .running) (hi : s.p.i = false) (hc : s.cart = none) :
    ∃ t n, hostIrq s = .next t ∧ t.runState = .error ∧ t.calls = s.calls ∧ t.returned = .clocks n := by
  obtain ⟨t, n, h, herror, -, -, hcalls, hn⟩ :=
    onNext_settle_enterInterrupt_noCart (vector := Config.vecIrq) (by decide) (s := cleared s) hc .spoilPc none 7
  exact ⟨t, n, (hostIrq_taken hstate hi).trans h, herror, hcalls, hn⟩

theorem hostNmi_noCart {s : State} (hstate : s.runState = .running) (hc : s.cart = none) :
    ∃ t n, hostNmi s = .next t ∧ t.runState = .error ∧ t.calls = s.calls ∧ t.returned = .clocks n := by
  obtain ⟨t, n, h, herror, -, -, hcalls, hn⟩ :=
    onNext_settle_enterInterrupt_noCart (vector := Config.vecNmi) (by decide) (s := cleared s) hc .spoilNmi none 7
  exact ⟨t, n, (hostNmi_taken hstate).trans h, herror, hcalls, hn⟩

theorem deliverNmi_noCart {s : State} (hc : s.cart = none) (r : Option RunCall) :
    ∃ t n, deliverNmi r s = .next t ∧ t.runState = .error ∧ t.run = none ∧ t.nmiPending = false ∧ t.calls = s.calls ∧
      t.returned = .clocks n := by
  rw [deliverNmi_eq]
  exact onNext_settle_enterInterrupt_noCart (vector := Config.vecNmi) (by decide)
    (s := cleared { s with nmiPending := false }) hc .spoilNmi r 7

end Sys2Proof.ExceptionFamily

/-! The statements about the entries of interrupts (60_exceptions.md R351 to R357). -/

namespace Sys2Proof.ExceptionFamily

open Sys2Proof Sys2Proof.Machine Sys2Proof.Claims

/-- Settles O30: the call is refused, or is the entry through the vector at 0xFFFE, with its cartridge or without. -/
theorem irqIsTakenOnlyWhenRunningWithIClear : Obligations.IrqIsTakenOnlyWhenRunningWithIClear := by
  refine ⟨fun s rest lo hi hrun hcalls hstate hi' hvector hpenalty hstack hbus => ?_, fun s rest hrun hcalls h => ?_,
    fun s rest hrun hcalls hstate hi' hc => ?_⟩ <;> rw [step_hostCall hrun hcalls]
  · exact hostIrq_of_vectorIs (s := { s with calls := rest }) hpenalty hstack hbus hstate hi' hrun hvector
  · exact if_pos h
  · exact hostIrq_noCart (s := { s with calls := rest }) hstate hi' hc

/-- Settles O31: the same through the vector at 0xFFFA, whatever I holds. -/
theorem nmiIsTakenWhateverIHolds : Obligations.NmiIsTakenWhateverIHolds := by
  refine ⟨fun s rest lo hi hrun hcalls hstate hvector hpenalty hstack hbus => ?_, fun s rest hrun hcalls h => ?_,
    fun s rest hrun hcalls hstate hc => ?_⟩ <;> rw [step_hostCall hrun hcalls]
  · exact hostNmi_of_vectorIs (s := { s with calls := rest }) hpenalty hstack hbus hstate hrun hvector
  · exact if_pos h
  · exact hostNmi_noCart (s := { s with calls := rest }) hstate hc

/-- Settles O32: the pending NMI is delivered before the budget is looked at. -/
theorem pendingNmiIsEnteredBeforeTheFirstInstruction : Obligations.PendingNmiIsEnteredBeforeTheFirstInstruction := by
  refine ⟨fun s rest budget lo hi hrun hcalls hstate hnmi hvector hpenalty hstack hbus => ?_,
    fun s lo hi hrun hcalls hstate hnmi hvector hpenalty hstack hbus => ?_, fun s rest budget hrun hcalls hstate hnmi => ?_,
    fun s rest budget hrun hcalls hstate hnmi hc => ?_⟩
  · rw [step_hostCall hrun hcalls]
    exact startRun_of_vectorIs (s := { s with calls := rest }) hpenalty hstack hbus hstate hnmi hvector budget
  · rw [step_singleStep hrun hcalls]
    exact singleStep_of_vectorIs hpenalty hstack hbus hstate hnmi hrun hvector
  · rw [step_hostCall hrun hcalls]
    exact startRun_not_pending (s := { s with calls := rest }) hstate hnmi budget
  · rw [step_hostCall hrun hcalls, hostCall, startRun_pending (s := { s with calls := rest }) hstate hnmi]
    exact deliverNmi_noCart (s := { s with calls := rest }) hc _

end Sys2Proof.ExceptionFamily

/-! SUPPORT. What one turn of the `run` loop can do, said once (60_exceptions.md R356; 20_memory.md R77): four ends, of which a
failed fetch without a cartridge and an executed instruction can be a BusFault. -/

namespace Sys2Proof.ExceptionFamily

open Sys2Proof Sys2Proof.Machine Sys2Proof.Claims Sys2Proof.EncodingFamily Sys2Proof.MemoryFamily

theorem fetchByte_busFault {a : Addr} {s : State} (h : fetchByte a s = .error .busFault) :
    s.cart = none ∧ 0x8000 ≤ a.toNat := by
  rcases Nat.lt_or_ge a.toNat 0x2000 with hram | hram
  · rw [fetchByte_ram hram] at h
    cases h
  rcases Nat.lt_or_ge a.toNat 0x8000 with hmid | hrom
  · rw [fetchByte_refused hram hmid] at h
    cases h
  refine ⟨?_, hrom⟩
  cases hc : s.cart with
  | none => rfl
  | some c =>
    simp only [fetchByte, windowOf_mapperRom hrom, mapperRead, hc, readROM_ok hrom] at h
    cases h

theorem fetchBytes_busFault {n : Nat} {a : Addr} {s : State} (h : fetchBytes n a s = .error .busFault) :
    s.cart = none ∧ ∃ k < n, 0x8000 ≤ (a + BitVec.ofNat 16 k).toNat := by
  induction n generalizing a with
  | zero => cases h
  | succ n ih =>
    rw [fetchBytes] at h
    split at h
    · cases h
      obtain ⟨hc, ha⟩ := fetchByte_busFault ‹_›
      exact ⟨hc, 0, n.succ_pos, by rwa [BitVec.add_zero]⟩
    · split at h
      · cases h
        obtain ⟨hc, k, hk, ha⟩ := ih ‹_›
        refine ⟨hc, k + 1, Nat.succ_lt_succ hk, ?_⟩
        rwa [Nat.add_comm, BitVec.ofNat_add, ← BitVec.add_assoc]
      · cases h

/-- Where the opcode byte is fetched without a cartridge, it lies in RAM, and so the operand bytes lie below ROM. -/
theorem operands_ne_busFault {s : State} {op : Byte} {n : Nat} (hop : fetchByte s.pc s = .ok op) (hn : n ≤ 2) :
    fetchBytes n (s.pc + 1#16) s ≠ .error .busFault := by
  intro h
  obtain ⟨hc, k, hk, ha⟩ := fetchBytes_busFault h
  rcases Nat.lt_or_ge s.pc.toNat 0x2000 with hram | hram
  · simp only [BitVec.toNat_add, BitVec.toNat_ofNat] at ha
    omega
  rcases Nat.lt_or_ge s.pc.toNat 0x8000 with hmid | hrom
  · rw [fetchByte_refused hram hmid] at hop
    cases hop
  · rw [fetchByte_noCart hrom hc] at hop
    cases hop

theorem fetchBytes_length {n : Nat} {a : Addr} {s : State} {bs : List Byte} (h : fetchBytes n a s = .ok bs) :
    bs.length = n := by
  induction n generalizing a bs with
  | zero =>
    cases h
    rfl
  | succ n ih =>
    rw [fetchBytes] at h
    split at h
    · cases h
    · split at h
      · cases h
      · cases h
        exact congrArg Nat.succ (ih ‹_›)

/-- Bytes of the length of their opcode's row that decode are the encoding of what they decode to, whose length and base cost
are the row's. -/
theorem decoded_row {op : Byte} {operands rest : List Byte} {row : OpRow} {i : Instr} (hrow : opcodeRow op = some row)
    (hlen : operands.length = row.mode.operandBytes) (h : decode (op :: operands) = .ok (i, rest)) :
    encode i = op :: operands ∧ (encode i).length = 1 + row.mode.operandBytes ∧ i.baseCost = row.cycles := by
  obtain ⟨op', operands', row', hbytes, hrow', hlen', -⟩ := decode_ok h
  obtain ⟨rfl, rfl⟩ := List.cons.inj hbytes
  obtain rfl := Option.some.inj (hrow'.symm.trans hrow)
  have hrest : rest = [] := by
    rw [List.length_append] at hlen
    exact List.length_eq_zero_iff.mp (by omega)
  subst hrest
  have hencode : encode i = op :: operands' := by
    simpa only [List.append_nil] using (encodeOfDecodeIsTheBytes _ _ _ h).symm
  have hopcode : i.opcode = op := (List.cons.inj hencode).1
  refine ⟨by rw [hencode, List.append_nil], by rw [hencode, List.length_cons, hlen', Nat.add_comm], ?_⟩
  simp only [Instr.baseCost, hopcode, hrow', Option.map_some, Option.getD_some]

theorem runOne_next {s t : State} {r : Option RunCall} (h : runOne r s = .next t) :
    (s.cart = none ∧ 0x8000 ≤ s.pc.toNat ∧ t = settle r 0 s.spoilPc.busError) ∨ t = undefinedOpcode r s ∨
      t = endRun (spentSoFar r) s ∨
      ∃ i u, fetchBytes (encode i).length s.pc s = .ok (encode i) ∧ overBudget r i.baseCost = false ∧
        exec i (beginInstr (encode i).length s) = .next u ∧ t = settle r i.baseCost u := by
  unfold runOne at h
  split at h
  · rename_i e hop
    cases e with
    | refused => cases h
    | busFault =>
      cases h
      obtain ⟨hc, hpc⟩ := fetchByte_busFault hop
      exact .inl ⟨hc, hpc, rfl⟩
  rename_i op hop
  split at h
  · cases h
    exact .inr (.inl rfl)
  rename_i row hrow
  split at h
  · cases h
    exact .inr (.inr (.inl rfl))
  rename_i hbudget
  split at h
  · rename_i e hoperands
    cases e with
    | refused => cases h
    | busFault => exact absurd hoperands (operands_ne_busFault hop (operandBytes_le_two _))
  rename_i operands hoperands
  split at h
  · cases h
    exact .inr (.inl rfl)
  rename_i i rest hdecode
  obtain ⟨hencode, hlength, hcost⟩ := decoded_row hrow (fetchBytes_length hoperands) hdecode
  rw [← hcost] at hbudget h
  rw [← hlength] at h
  cases hexec : exec i (beginInstr (encode i).length s) with
  | next u =>
    rw [hexec] at h
    cases h
    refine .inr (.inr (.inr ⟨i, u, ?_, Bool.eq_false_iff.mpr hbudget, hexec, rfl⟩))
    rw [hlength, hencode, Nat.add_comm]
    simp only [fetchBytes, hop, hoperands]
  | fault _ | refused _ =>
    rw [hexec] at h
    cases h

end Sys2Proof.ExceptionFamily

/-! SUPPORT. A `run` call stays within its bound: the clocks of an instruction are its base cost, which the budget covers, and
its penalty, at most 2; the entry of a pending NMI costs 7 (60_exceptions.md R356). -/

namespace Sys2Proof.ExceptionFamily

open Sys2Proof Sys2Proof.Machine Sys2Proof.Claims Sys2Proof.StateFamily Sys2Proof.EncodingFamily

/-- The `run(budget)` call, if it goes on, has spent at most its bound, and if it has ended it returned at most that. -/
structure WithinBound (budget : Nat) (t : State) : Prop where
  spent : ∀ c, t.run = some c → c.spent ≤ max (c.budget + 2) 7
  returned : t.run = none → ∀ n, t.returned = .clocks n → n ≤ max (budget + 2) 7

theorem endRun_within {budget n : Nat} (h : n ≤ max (budget + 2) 7) (s : State) : WithinBound budget (endRun n s) := by
  refine ⟨nofun, fun _ => ?_⟩
  rintro _ ⟨⟩
  exact h

theorem settle_within {c : RunCall} {cost : Nat} {t : State} (hbus : t.busFault = false)
    (h : c.spent + cost + t.penalty ≤ max (c.budget + 2) 7) : WithinBound c.budget (settle (some c) cost t) := by
  by_cases hstate : t.runState = .running
  · rw [settle_running hbus hstate]
    refine ⟨?_, nofun⟩
    rintro _ ⟨⟩
    exact h
  · rw [settle_stopped hbus hstate]
    exact endRun_within h { t with penalty := 0, stackFault := false }

theorem settle_run_busFault {t : State} (hbus : t.busFault = true) (hstate : t.runState = .error) (r : Option RunCall)
    (cost : Nat) : (settle r cost t).run = none := by
  rw [settle_busFault hbus (by rw [hstate]; nofun)]

/-- An instruction of a `run` call that its budget covers (60_exceptions.md R356). -/
theorem settle_exec_within {c : RunCall} {i : Instr} {n : Nat} {s u : State} (hbudget : overBudget (some c) i.baseCost = false)
    (hexec : exec i (beginInstr n s) = .next u) :
    WithinBound c.budget (settle (some c) i.baseCost u) ∨ (settle (some c) i.baseCost u).run = none ∧ u.busFault = true := by
  rcases exec_answers i (beginInstr n s) with ⟨u', hu', hcost⟩ | ⟨hfault, -⟩
  · obtain rfl : u' = u := by
      rw [hu'] at hexec
      exact Host.Outcome.next.inj hexec
    obtain ⟨hpenalty, herror⟩ := hcost.bounded ⟨Nat.zero_le 2, nofun⟩
    have hcovered : c.spent + i.baseCost ≤ c.budget := Nat.not_lt.mp (of_decide_eq_false hbudget)
    cases hbus : u'.busFault with
    | false => exact .inl (settle_within hbus (by omega))
    | true => exact .inr ⟨settle_run_busFault hbus (herror hbus) _ _, rfl⟩
  · rw [hfault] at hexec
    cases hexec

/-- One turn of a `run` call keeps the bound, or ends the call in a BusFault. -/
theorem continueRun_within {c : RunCall} {s t : State} (hspent : c.spent ≤ max (c.budget + 2) 7)
    (h : continueRun c s = .next t) : WithinBound c.budget t ∨ t.run = none ∧ BusFaultAhead s := by
  unfold continueRun at h
  split at h
  · cases h
    exact .inl (endRun_within hspent s)
  rcases runOne_next h with ⟨hc, hpc, rfl⟩ | rfl | rfl | ⟨i, u, hfetch, hbudget, hexec, rfl⟩
  · exact .inr ⟨settle_run_busFault rfl rfl _ _, .inl ⟨hc, hpc⟩⟩
  · exact .inl (endRun_within hspent _)
  · exact .inl (endRun_within hspent s)
  · exact (settle_exec_within hbudget hexec).imp_right (fun ⟨hrun, hbus⟩ => ⟨hrun, .inr ⟨i, u, hfetch, hexec, hbus⟩⟩)

/-- The first step of `run(budget)` keeps the bound, or ends the call in a BusFault for want of a cartridge. -/
theorem startRun_within {budget : Nat} {s t : State} (h : startRun budget s = .next t) :
    WithinBound budget t ∨ t.run = none ∧ s.cart = none := by
  unfold startRun at h
  split at h
  · cases h
    exact .inl (endRun_within (Nat.zero_le _) s)
  split at h
  · cases hc : s.cart with
    | none =>
      obtain ⟨u, -, hu, -, hrun, -⟩ := deliverNmi_noCart hc (some { budget := budget, spent := 0 })
      rw [hu] at h
      cases h
      exact .inr ⟨hrun, rfl⟩
    | some c =>
      obtain ⟨lo, hi, hvector⟩ := exists_vectorIs hc (v := 0xFFFA) (by decide)
      rw [deliverNmi_eq, nmiEntry_of_vectorIs (s := cleared { s with nmiPending := false }) hvector] at h
      cases h
      exact .inl (settle_within (c := { budget := budget, spent := 0 }) rfl (Nat.le_max_right _ _))
  · cases h
    refine .inl ⟨?_, nofun⟩
    rintro _ ⟨⟩
    exact Nat.zero_le _

end Sys2Proof.ExceptionFamily

/-! SUPPORT. Every step but a turn of a `run` call and the call `run` itself leaves no `run` call in progress (48_bus.md R305;
70_reset_and_hazards.md R404). -/

namespace Sys2Proof.ExceptionFamily

open Sys2Proof Sys2Proof.Machine Sys2Proof.StateFamily

/-- The host's single step leaves no `run` call in progress. -/
theorem singleStep_run (s : State) : Ensures (singleStep s) (fun t => t.run = none) := by
  unfold singleStep
  split
  · exact ensures_next rfl
  split
  · exact ensures_onNext (fun _ _ => rfl)
  · intro t h
    rcases runOne_next h with ⟨-, -, rfl⟩ | rfl | rfl | ⟨i, u, -, -, -, rfl⟩ <;> rfl

section

variable {s : State} (hrun : s.run = none)
include hrun

theorem busEffect_run {t : State} (h : BusEffect s t) : t.run = none := by
  rw [h.frame]
  exact hrun

theorem updateFrame_run : Ensures (updateFrame s) (fun t => t.run = none) := by
  unfold updateFrame
  split
  · rintro _ ⟨⟩
  split
  · rintro _ ⟨⟩
  · refine ensures_next ?_
    split <;> exact hrun

theorem hostRead_run {a : Access Byte} (h : ∀ v t, a = .ok v t → BusEffect s t) :
    Ensures (hostRead a s) (fun t => t.run = none) := by
  cases a with
  | ok v t =>
    have ht : t.run = none := busEffect_run hrun (h v t rfl)
    exact ensures_next ht
  | failed _ => exact ensures_next hrun
  | fatal => rintro _ ⟨⟩

theorem hostWrite_run {a : Access Unit} (h : ∀ t, a = .ok () t → BusEffect s t) :
    Ensures (hostWrite a s) (fun t => t.run = none) := by
  cases a with
  | ok _ t =>
    have ht : t.run = none := busEffect_run hrun (h t rfl)
    exact ensures_next ht
  | failed _ => exact ensures_next hrun
  | fatal => rintro _ ⟨⟩

theorem hostMapper_run {op : Cartridge → Result} (h : ∀ c, Ensures (op c) (fun t => t.run = none)) :
    Ensures (hostMapper op s) (fun t => t.run = none) := by
  unfold hostMapper
  split
  · exact ensures_next hrun
  · exact h _

theorem hostReadVROM_run (addr : Nat) (c : Cartridge) : Ensures (hostReadVROM addr c s) (fun t => t.run = none) := by
  unfold hostReadVROM
  split
  · rintro _ ⟨⟩
  · exact ensures_next hrun

theorem resetCpu_run : Ensures (resetCpu s) (fun t => t.run = none) := by
  refine (resetCpu_effect s).imp ?_
  rintro t ⟨u, hu, -, ht⟩
  have hnone : u.run = none := busEffect_run (s := resetRegisters s) hrun hu
  rw [ht]
  exact hnone

/-- No call of the host but `run` leaves a `run` call in progress (70_reset_and_hazards.md R404). -/
theorem hostCall_run {call : HostCall} (hcall : ∀ budget, call ≠ .run budget) :
    Ensures (hostCall call s) (fun t => t.run = none) := by
  cases call with
  | run budget => exact absurd rfl (hcall budget)
  | reset => exact resetCpu_run hrun
  | irq | nmi =>
    simp only [hostCall, hostIrq, hostNmi]
    split
    · exact ensures_next hrun
    · exact ensures_onNext (fun _ _ => rfl)
  | update => exact ensures_onNext (updateFrame_run hrun)
  | readMem _ => exact hostRead_run hrun (fun _ _ => memRead_busEffect)
  | readVideoMem _ => exact hostRead_run hrun (fun _ _ => vidRead_busEffect)
  | writeMem _ _ => exact hostWrite_run hrun (fun _ => memWrite_busEffect)
  | writeVideoMem _ _ => exact hostWrite_run hrun (fun _ => vidWrite_busEffect)
  | flash _ _ | readROM _ | readRAM _ | writeRAM _ _ => exact hostMapper_run hrun (fun _ => ensures_next hrun)
  | readVROM addr => exact hostMapper_run hrun (hostReadVROM_run hrun addr)
  | _ => exact ensures_next hrun

end

end Sys2Proof.ExceptionFamily

/-! The statement of the bound of a `run` call (60_exceptions.md R356; 70_reset_and_hazards.md R418). -/

namespace Sys2Proof.ExceptionFamily

open Sys2Proof Sys2Proof.Machine Sys2Proof.Claims

theorem runInvariant_of_run_none {t : State} (h : t.run = none) : t.RunInvariant := by
  intro c hc
  rw [h] at hc
  cases hc

/-- Whatever a step is, a `run` call in progress after it is within its bound. -/
theorem step_runInvariant {s t : State} (hs : s.RunInvariant) (h : step s = .next t) : t.RunInvariant := by
  cases hrun : s.run with
  | some c =>
    simp only [step, stepMachine, hrun] at h
    rcases continueRun_within (hs c hrun) h with hwithin | ⟨hnone, -⟩
    · exact hwithin.spent
    · exact runInvariant_of_run_none hnone
  | none =>
    cases hcalls : s.calls with
    | nil =>
      rw [step_singleStep hrun hcalls] at h
      exact runInvariant_of_run_none (singleStep_run s t h)
    | cons call rest =>
      rw [step_hostCall hrun hcalls] at h
      by_cases hcall : ∃ budget, call = .run budget
      · obtain ⟨budget, rfl⟩ := hcall
        rcases startRun_within h with hwithin | ⟨hnone, -⟩
        · exact hwithin.spent
        · exact runInvariant_of_run_none hnone
      · exact runInvariant_of_run_none (hostCall_run (s := { s with calls := rest }) hrun (not_exists.mp hcall) t h)

/-- Settles O42: one turn of a `run` call and its first step keep the bound, but for a BusFault; every other step leaves no
`run` call in progress. -/
theorem everyStepKeepsTheRunWithinItsBound : Obligations.EveryStepKeepsTheRunWithinItsBound := by
  refine ⟨fun s t => step_runInvariant, fun s t c n hs hrun hbus h hnone hn => ?_,
    fun s t budget rest n hrun hcalls hcart h hnone hn => ?_⟩
  · simp only [step, stepMachine, hrun] at h
    rcases continueRun_within (hs c hrun) h with hwithin | ⟨-, hahead⟩
    · exact hwithin.returned hnone n hn
    · exact absurd hahead hbus
  · rw [step_hostCall hrun hcalls] at h
    rcases startRun_within h with hwithin | ⟨-, hnoCart⟩
    · exact hwithin.returned hnone n hn
    · exact absurd hnoCart hcart

end Sys2Proof.ExceptionFamily

/-! SUPPORT. The two address maps window by window, where the model's own lemmas do not say it already (48_bus.md R300, R306,
R307; 49_mapper.md R322, R323). -/

namespace Sys2Proof.BusFamily

open Sys2Proof Sys2Proof.Machine

theorem readROM_low {c : Cartridge} {a : Nat} (h : a < 0x8000) : c.readROM a = .error .illegalArgument := if_pos h

theorem readROM_first {c : Cartridge} {a : Nat} (h1 : 0x8000 ≤ a) (h2 : a < 0xC000) :
    c.readROM a = .ok (c.rom.read (a - 0x8000)) := by
  rw [readROM_ok h1, if_pos h2]

theorem readROM_last {c : Cartridge} {a : Nat} (h : 0xC000 ≤ a) :
    c.readROM a = .ok (c.rom.read ((c.romPages - 1) * 0x4000 + (a - 0xC000))) := by
  rw [readROM_ok (by omega), if_neg (by omega)]

theorem memRead_undecoded {a : Addr} (h1 : 0x4000 ≤ a.toNat) (h2 : a.toNat < 0x4020) (s : State) :
    memRead a s = .failed .undecoded := by
  simp only [memRead, windowOf_undecoded h1 h2]

/-- The default mapper has no RAM to read (49_mapper.md R323). -/
theorem memRead_mapperRam {a : Addr} {s : State} {c : Cartridge} (h1 : 0x4020 ≤ a.toNat) (h2 : a.toNat < 0x8000)
    (hc : s.cart = some c) : memRead a s = .failed .illegalOperation := by
  simp only [memRead, windowOf_mapperRam h1 h2, mapperRead, hc, Cartridge.readRAM]

theorem memRead_mapper_noCart {a : Addr} {s : State} (h : 0x4020 ≤ a.toNat) (hc : s.cart = none) :
    memRead a s = .failed .noCartridge := by
  rcases Nat.lt_or_ge a.toNat 0x8000 with hram | hrom
  · simp only [memRead, windowOf_mapperRam h hram, mapperRead, hc]
  · exact memRead_noCart hrom hc

/-- A byte written to RAM is read back through every mirror (20_memory.md R67). -/
theorem readRam_writeRam {s : State} {a b : Addr} (v : Byte) (hram : s.ram.wf)
    (hmirror : b.toNat % Config.ramSize = a.toNat % Config.ramSize) : (s.writeRam a v).readRam b = v := by
  rw [State.readRam, hmirror]
  exact Memory.read_write_same s.ram _ v hram.1

theorem vidRead_rom {a : Nat} {s : State} {c : Cartridge} (h : a % 0x4000 < 0x2000) (hc : s.cart = some c)
    (hvrom : 1 ≤ c.vromPages) : vidRead a s = .ok (c.vrom.read (a % 0x4000)) s := by
  simp only [vidRead, if_pos h, hc, RenderFamily.readVROM_of_lt hvrom h]

theorem readVROM_of_ge {c : Cartridge} {a : Nat} (h : c.vromPages * 0x2000 ≤ a) : c.readVROM a = none := if_pos h

theorem vidRead_noVrom {a : Nat} {s : State} {c : Cartridge} (h : a % 0x4000 < 0x2000) (hc : s.cart = some c)
    (hvrom : c.vromPages = 0) : vidRead a s = .fatal := by
  have hread : c.readVROM (a % 0x4000) = none := readVROM_of_ge (by omega)
  simp only [vidRead, if_pos h, hc, hread]

theorem vidRead_noCart {a : Nat} {s : State} (h : a % 0x4000 < 0x2000) (hc : s.cart = none) :
    vidRead a s = .failed .noCartridge := by
  simp only [vidRead, if_pos h, hc]

section

variable {a : Nat} (h1 : 0x2000 ≤ a % 0x4000) (h2 : a % 0x4000 < 0x3F00)
include h1 h2

theorem vidRead_nametable (s : State) : vidRead a s = .ok (s.nt.read ((a % 0x4000 - 0x2000) % 0x1000)) s := by
  simp only [vidRead, if_neg (Nat.not_lt.mpr h1), if_pos h2, ntIndex_eq]

theorem vidWrite_nametable (v : Byte) (s : State) :
    vidWrite a v s = .ok () { s with nt := s.nt.write ((a % 0x4000 - 0x2000) % 0x1000) v } := by
  simp only [vidWrite, if_neg (Nat.not_lt.mpr h1), if_pos h2, ntIndex_eq]

end

/-- A palette address counts modulo 32, which divides 0x4000 (48_bus.md R306). -/
theorem palIndex_mod (a : Nat) :
    palIndex (a % 0x4000) = if a % 32 ∈ [0x10, 0x14, 0x18, 0x1C] then a % 32 - 0x10 else a % 32 := by
  rw [RenderFamily.palIndex_eq, Nat.mod_mod_of_dvd a (by decide)]

section

variable {a : Nat} (h : 0x3F00 ≤ a % 0x4000)
include h

theorem vidRead_palette (s : State) : vidRead a s = .ok (s.pal.read (palIndex (a % 0x4000))) s := by
  simp only [vidRead]
  rw [if_neg (by omega), if_neg (by omega)]

theorem vidWrite_palette (v : Byte) (s : State) :
    vidWrite a v s = .ok () { s with pal := s.pal.write (palIndex (a % 0x4000)) v } := by
  simp only [vidWrite]
  rw [if_neg (by omega), if_neg (by omega)]

end

end Sys2Proof.BusFamily

/-! SUPPORT. What `flash` leaves, as `readROM` sees it: with two ROM pages or more the two windows show different bytes, so that
a part written in one window changes nothing in the other (49_mapper.md R322, R326). -/

namespace Sys2Proof.BusFamily

open Sys2Proof Sys2Proof.Machine

theorem read_writeAll_other {a b : Nat} {vs : List Byte} {m : Memory} (h : b < a ∨ a + vs.length ≤ b) :
    (m.writeAll a vs).read b = m.read b := by
  induction vs generalizing m a with
  | nil => rfl
  | cons v vs ih =>
    rw [List.length_cons] at h
    rw [Memory.writeAll, ih (by omega), Memory.read_write_other _ _ _ _ (by omega)]

theorem wf_writeAll {vs : List Byte} {m : Memory} {a : Nat} (h : m.wf) : (m.writeAll a vs).wf := by
  induction vs generalizing m a with
  | nil => exact h
  | cons v vs ih => exact ih (Memory.wf_write a v h)

theorem read_writeAll_same {vs : List Byte} {m : Memory} {a k : Nat} (hm : m.wf) (hk : k < vs.length) :
    (m.writeAll a vs).read (a + k) = vs.getD k 0#8 := by
  induction vs generalizing m a k with
  | nil => cases hk
  | cons v vs ih =>
    rw [Memory.writeAll]
    cases k with
    | zero => rw [read_writeAll_other (by omega), Nat.add_zero, Memory.read_write_same m a v hm.1, List.getD_cons_zero]
    | succ k =>
      rw [← Nat.add_assoc, Nat.add_right_comm, ih (Memory.wf_write a v hm) (Nat.lt_of_succ_lt_succ hk), List.getD_cons_succ]

/-- The key in a cartridge's ROM of the byte a CPU address of the ROM window shows (49_mapper.md R322). -/
def romKey (c : Cartridge) (a : Nat) : Nat :=
  if a < 0xC000 then a - 0x8000 else (c.romPages - 1) * 0x4000 + (a - 0xC000)

theorem readROM_romKey {c : Cartridge} {a : Nat} (h : 0x8000 ≤ a) : c.readROM a = .ok (c.rom.read (romKey c a)) :=
  readROM_ok h

/-- From `c` to `c'` the bytes of `buffer` were written from CPU address `addr` up, and no other byte of the two windows. -/
structure Flashed (addr : Nat) (buffer : List Byte) (c c' : Cartridge) : Prop where
  romPages : c'.romPages = c.romPages
  wf : c'.rom.wf
  written : ∀ k, k < buffer.length → c'.readROM (addr + k) = .ok (buffer.getD k 0#8)
  kept : ∀ a, a < 0x10000 → a < addr ∨ addr + buffer.length ≤ a → c'.readROM a = c.readROM a

/-- Bytes that stay inside one window, written at the key of the first. -/
theorem flashed_writeAll {c : Cartridge} {addr : Nat} {buffer : List Byte} (hpages : 2 ≤ c.romPages) (hrom : c.rom.wf)
    (hlow : 0x8000 ≤ addr) (hfit : addr + buffer.length ≤ if addr < 0xC000 then 0xC000 else 0x10000) :
    Flashed addr buffer c { c with rom := c.rom.writeAll (romKey c addr) buffer } where
  romPages := rfl
  wf := wf_writeAll hrom
  written k hk := by
    have hkey : romKey c (addr + k) = romKey c addr + k := by
      simp only [romKey]
      split at hfit <;> split <;> omega
    rw [readROM_romKey (by omega), ← read_writeAll_same hrom hk (a := romKey c addr), ← hkey]
    rfl
  kept a ha hout := by
    rcases Nat.lt_or_ge a 0x8000 with hrange | hrange
    · rw [readROM_low hrange, readROM_low hrange]
    · have hkey : romKey c a < romKey c addr ∨ romKey c addr + buffer.length ≤ romKey c a := by
        simp only [romKey]
        split at hfit <;> split <;> omega
      rw [readROM_romKey hrange, readROM_romKey hrange, ← read_writeAll_other hkey]
      rfl

theorem Flashed.append {addr : Nat} {xs ys : List Byte} {c c' c'' : Cartridge} (h : Flashed addr xs c c')
    (h' : Flashed (addr + xs.length) ys c' c'') (hfit : addr + xs.length ≤ 0x10000) : Flashed addr (xs ++ ys) c c'' where
  romPages := h'.romPages.trans h.romPages
  wf := h'.wf
  written k hk := by
    rw [List.length_append] at hk
    rcases Nat.lt_or_ge k xs.length with hxs | hys
    · rw [h'.kept _ (by omega) (by omega), h.written k hxs, List.getD_append _ _ _ _ hxs]
    · rw [List.getD_append_right _ _ _ _ hys, ← h'.written (k - xs.length) (by omega)]
      congr 1
      omega
  kept a ha hout := by
    rw [List.length_append] at hout
    rw [h'.kept a ha (by omega), h.kept a ha (by omega)]

theorem flashFixed_of_fits {c : Cartridge} {addr : Nat} {buffer : List Byte} (h1 : 0xC000 ≤ addr)
    (hfit : addr + buffer.length ≤ 0x10000) :
    c.flashFixed addr buffer = .ok { c with rom := c.rom.writeAll (romKey c addr) buffer } := by
  rw [Cartridge.flashFixed, if_neg (by omega), romKey, if_neg (by omega)]
  rfl

theorem flashFixed_overflow {c : Cartridge} {addr : Nat} {buffer : List Byte} (h1 : addr ≤ 0x10000)
    (hover : 0x10000 < addr + buffer.length) : c.flashFixed addr buffer = .error .sizeOverflow :=
  if_pos (by omega)

theorem flashSwitchable_eq {c : Cartridge} {addr : Nat} (buffer : List Byte) (h : addr < 0xC000) :
    c.flashSwitchable addr buffer = { c with rom := c.rom.writeAll (romKey c addr) (buffer.take (0xC000 - addr)) } := by
  rw [Cartridge.flashSwitchable, romKey, if_pos h]

theorem flash_outside {c : Cartridge} {free : Bool} {addr : Nat} {buffer : List Byte} (h : addr < 0x8000 ∨ 0xFFFF < addr) :
    c.flash free addr buffer = (some .illegalArgument, c) := if_pos h

theorem inside_romWindow {addr : Nat} (hlow : 0x8000 ≤ addr) (hhigh : addr ≤ 0xFFFF) :
    ¬ (addr < Config.romBase ∨ addr > 0xFFFF) :=
  not_or.mpr ⟨Nat.not_lt.mpr hlow, Nat.not_lt.mpr hhigh⟩

/-- The answer `r` of a `flash` inside the ROM window: the buffer fits and is written, or it is SizeOverflow. -/
def FlashesOrOverflows (addr : Nat) (buffer : List Byte) (c : Cartridge) (r : Option Failure × Cartridge) : Prop :=
  (addr + buffer.length ≤ 0x10000 ∧ ∃ c', r = (none, c') ∧ Flashed addr buffer c c') ∨
    0x10000 < addr + buffer.length ∧ r.1 = some .sizeOverflow

section

variable {c : Cartridge} {addr : Nat} {buffer : List Byte} (hpages : 2 ≤ c.romPages) (hrom : c.rom.wf)
include hpages hrom

/-- The part of a buffer that fits below 0xC000, in the first page. -/
theorem flashed_flashSwitchable (hlow : 0x8000 ≤ addr) (hfirst : addr < 0xC000) :
    Flashed addr (buffer.take (0xC000 - addr)) c (c.flashSwitchable addr buffer) := by
  rw [flashSwitchable_eq buffer hfirst]
  refine flashed_writeAll hpages hrom hlow ?_
  rw [if_pos hfirst, List.length_take]
  omega

theorem flash_first (free : Bool) (hlow : 0x8000 ≤ addr) (hfit : addr + buffer.length ≤ 0xC000) (hfirst : addr < 0xC000) :
    FlashesOrOverflows addr buffer c (c.flash free addr buffer) := by
  have hwhole : buffer.length ≤ 0xC000 - addr := by omega
  have hpart := flashed_flashSwitchable (buffer := buffer) hpages hrom hlow hfirst
  rw [List.take_of_length_le hwhole] at hpart
  rw [Cartridge.flash, if_neg (inside_romWindow hlow (by omega)), if_pos hfirst, if_pos hwhole]
  exact .inl ⟨by omega, _, rfl, hpart⟩

/-- A buffer across 0xC000: its second part goes to the last page, from its first byte up. -/
theorem flash_split (free : Bool) (hlow : 0x8000 ≤ addr) (hfirst : addr < 0xC000) (hsplit : 0xC000 < addr + buffer.length) :
    FlashesOrOverflows addr buffer c (c.flash free addr buffer) := by
  have hpart := flashed_flashSwitchable (buffer := buffer) hpages hrom hlow hfirst
  have htake : addr + (buffer.take (0xC000 - addr)).length = 0xC000 := by
    rw [List.length_take]
    omega
  have hdrop : 0xC000 + (buffer.drop (0xC000 - addr)).length = addr + buffer.length := by
    rw [List.length_drop]
    omega
  rw [Cartridge.flash, if_neg (inside_romWindow hlow (by omega)), if_pos hfirst, if_neg (by simp only [Config.fixedBase]; omega)]
  rcases Nat.lt_or_ge 0x10000 (addr + buffer.length) with hover | hfit
  · rw [flashFixed_overflow (by decide) (by rw [hdrop]; exact hover)]
    exact .inr ⟨hover, rfl⟩
  · rw [flashFixed_of_fits (by decide) (by rw [hdrop]; exact hfit)]
    refine .inl ⟨hfit, _, rfl, ?_⟩
    rw [← List.take_append_drop (0xC000 - addr) buffer]
    refine hpart.append ?_ (by omega)
    rw [List.take_append_drop, htake]
    exact flashed_writeAll (hpart.romPages.symm ▸ hpages) hpart.wf (by decide) (by rw [hdrop]; exact hfit)

theorem flash_last (free : Bool) (hlast : 0xC000 ≤ addr) (hhigh : addr ≤ 0xFFFF) :
    FlashesOrOverflows addr buffer c (c.flash free addr buffer) := by
  rw [Cartridge.flash, if_neg (inside_romWindow (by omega) hhigh), if_neg (Nat.not_lt.mpr hlast)]
  rcases Nat.lt_or_ge 0x10000 (addr + buffer.length) with hover | hfit
  · rw [flashFixed_overflow (by omega) hover]
    exact .inr ⟨hover, rfl⟩
  · rw [flashFixed_of_fits hlast hfit]
    refine .inl ⟨hfit, _, rfl, flashed_writeAll hpages hrom (by omega) ?_⟩
    rwa [if_neg (Nat.not_lt.mpr hlast)]

theorem flash_inside (free : Bool) (hlow : 0x8000 ≤ addr) (hhigh : addr ≤ 0xFFFF) :
    FlashesOrOverflows addr buffer c (c.flash free addr buffer) := by
  rcases Nat.lt_or_ge addr 0xC000 with hfirst | hlast
  · rcases Nat.lt_or_ge 0xC000 (addr + buffer.length) with hsplit | hfit
    · exact flash_split hpages hrom free hlow hfirst hsplit
    · exact flash_first hpages hrom free hlow hfit hfirst
  · exact flash_last hpages hrom free hlast hhigh

end

end Sys2Proof.BusFamily

/-! The statements about the two address maps and the mapper (48_bus.md, 49_mapper.md). -/

namespace Sys2Proof.BusFamily

open Sys2Proof Sys2Proof.Machine Sys2Proof.SystemFamily

/-- Settles O53: each window by its own lemma. -/
theorem cpuReadsFollowTheAddressMap : Obligations.CpuReadsFollowTheAddressMap := by
  refine fun a s => ⟨memRead_ram, memRead_ppu, fun h1 h2 => memRead_undecoded h1 h2 s, memRead_mapper_noCart,
    fun c hc h1 h2 => memRead_mapperRam h1 h2 hc, fun c hc h1 h2 => memRead_rom_byte h1 hc (readROM_first h1 h2),
    fun c hc h => memRead_rom_byte (by omega) hc (readROM_last h)⟩

/-- Settles O54: a RAM byte has one key for all its mirrors. -/
theorem cpuWritesFollowTheAddressMap : Obligations.CpuWritesFollowTheAddressMap := by
  refine fun a v s => ⟨memWrite_ram, fun b t hram ha hb hmirror h => ?_, memWrite_ppu, memWrite_high⟩
  rw [memWrite_ram ha] at h
  injection h with _ ht
  rw [← ht, memRead_ram hb, readRam_writeRam v hram hmirror]

/-- Settles O57: the two pattern tables, the nametables and the palette, each by its own lemma. -/
theorem videoAddressesDecodeByTheMap : Obligations.VideoAddressesDecodeByTheMap := by
  intro a v s
  rw [← palIndex_mod a]
  exact ⟨fun c h hc => vidRead_rom h hc, fun c h hc => vidRead_noVrom h hc, vidRead_noCart,
    fun h => PpuFamily.vidWrite_rom h v s, fun h1 h2 => ⟨vidRead_nametable h1 h2 s, vidWrite_nametable h1 h2 v s⟩,
    fun h => ⟨vidRead_palette h s, vidWrite_palette h v s⟩⟩

/-- Settles O60: a `flash` that fits is written at its CPU addresses and nowhere else. -/
theorem flashedBytesAreReadBack : Obligations.FlashedBytesAreReadBack := by
  intro c free addr buffer hpages hrom
  refine ⟨fun c' h => ?_, flash_outside, fun hlow hhigh => ?_, fun hlow hhigh hover => ?_⟩
  · by_cases hwindow : addr < 0x8000 ∨ 0xFFFF < addr
    · rw [flash_outside hwindow] at h
      cases h
    · obtain ⟨hlow, hhigh⟩ := not_or.mp hwindow
      have hflash := flash_inside (buffer := buffer) hpages hrom free (Nat.not_lt.mp hlow) (Nat.not_lt.mp hhigh)
      rw [h] at hflash
      rcases hflash with ⟨-, d, ⟨⟩, hflashed⟩ | ⟨-, ⟨⟩⟩
      exact ⟨hflashed.written, hflashed.kept⟩
  · rcases flash_inside (buffer := buffer) hpages hrom free hlow hhigh with ⟨hfit, d, hd, -⟩ | ⟨hover, hfail⟩
    · rw [hd]
      exact iff_of_true rfl hfit
    · rw [hfail]
      exact iff_of_false nofun (Nat.not_le.mpr hover)
  · rcases flash_inside (buffer := buffer) hpages hrom free hlow hhigh with ⟨hfit, -⟩ | ⟨-, hfail⟩
    · exact absurd hover (Nat.not_lt.mpr hfit)
    · exact hfail

end Sys2Proof.BusFamily

/-! SUPPORT. RTI right after an interrupt entry: the three bytes popped are the three pushed (44_stack_and_flags.md R210, R211;
60_exceptions.md R357, R362). -/

namespace Sys2Proof.ExceptionFamily

open Sys2Proof Sys2Proof.Machine Sys2Proof.Claims Sys2Proof.SystemFamily Sys2Proof.StackFlagsFamily

theorem onlyPushed_read_above {vs : List Byte} {s t : State} (h : OnlyPushed vs s t) (hram : s.ram.wf)
    (hlen : vs.length ≤ 256) {k : Nat} (hk : k < vs.length) :
    t.ram.read (above t (k + 1)) = vs[vs.length - 1 - k] := by
  rw [OnlyPushed] at h
  have hbytes : t.ram = (pushAll vs s).ram := by rw [h]
  have hkey : above t (k + 1) = above (pushAll vs s) (k + 1) := by
    rw [h]
    rfl
  rw [hbytes, hkey, above_pushAll hlen hk]
  exact read_pushAll_below hram hlen (by omega)

theorem entered_onlyPushed (s : State) (ret handler : Addr) (brk : Bool) :
    OnlyPushed [hiByte ret, loByte ret, s.p.pushed brk] s (entered s ret brk handler) := by
  rw [← stackEnd_pushFrame]
  exact ((pushFrame_onlyPushed ret brk s).trans rfl).stackEnd

/-- The status byte pushed holds every flag but B, which RTI does not write (10_state.md R22). -/
theorem flagsFrom_pushed (p : Flags) (i brk : Bool) : flagsFrom { p with i := i } (p.pushed brk) = p := by
  obtain ⟨c, z, pi, d, b, v, n⟩ := p
  revert c z pi d b v n i brk
  decide

/-- RTI from the handler of an interrupt whose frame is intact. -/
theorem exec_rti_entered {s : State} (hram : s.ram.wf) (ret handler : Addr) (brk : Bool) :
    ∃ u, exec .rti (entered s ret brk handler) = .next u ∧ u.pc = ret ∧ u.s = s.s ∧ u.p = s.p ∧ u.a = s.a ∧ u.x = s.x ∧
      u.y = s.y := by
  have hpushed := entered_onlyPushed s ret handler brk
  have hstatus := onlyPushed_read_above hpushed hram (by decide : 3 ≤ 256) (k := 0) (by simp)
  have hlo := onlyPushed_read_above hpushed hram (by decide : 3 ≤ 256) (k := 1) (by simp)
  have hhi := onlyPushed_read_above hpushed hram (by decide : 3 ≤ 256) (k := 2) (by simp)
  refine ⟨_, exec_rti _, ?_, BitVec.sub_add_cancel s.s 3#8, ?_, rfl, rfl, rfl⟩
  · exact (congrArg₂ addrOf hhi hlo).trans (EncodingFamily.addrOf_hiByte_loByte ret)
  · exact (congrArg (flagsFrom _) hstatus).trans (flagsFrom_pushed s.p true brk)

/-- An IRQ entry without a BusFault has left the frame and gone to some handler. -/
theorem irqEntry_next {s t : State} (h : irqEntry s = .next t) (hbus : t.busFault = false) :
    ∃ handler, t = entered s s.pc false handler := by
  rcases enterInterrupt_next h with ⟨lo, u, hi, w, hlo, hhi, rfl⟩ | ⟨lo, u, f, -, -, rfl⟩ | ⟨f, -, rfl⟩
  · rw [memRead_rom_state (by decide) hhi, memRead_rom_state (by decide) hlo]
    exact ⟨addrOf hi lo, stackEnd_pushFrame s.pc (addrOf hi lo) false s⟩
  · cases hbus
  · cases hbus

end Sys2Proof.ExceptionFamily

/-! The statement about RTI after a taken IRQ (60_exceptions.md R352, R357, R362). -/

namespace Sys2Proof.ExceptionFamily

open Sys2Proof Sys2Proof.Machine

/-- Settles O33: RTI pops the frame the entry pushed. -/
theorem rtiAfterIrqResumesTheInterruptedProgram : Obligations.RtiAfterIrqResumesTheInterruptedProgram := by
  intro s t u hram hirq hbus hrti
  obtain ⟨handler, rfl⟩ := irqEntry_next hirq hbus
  obtain ⟨u', hu', h⟩ := exec_rti_entered hram s.pc handler false
  rw [hrti] at hu'
  cases hu'
  exact h

end Sys2Proof.ExceptionFamily

/-! SUPPORT. What `reset()` leaves, with its vector in ROM and without a cartridge (70_reset_and_hazards.md R400). -/

namespace Sys2Proof.ResetFamily

open Sys2Proof Sys2Proof.Machine Sys2Proof.Claims Sys2Proof.ControlFlowFamily Sys2Proof.SystemFamily

/-- `reset()` with its vector's bytes in ROM (R400). -/
theorem resetCpu_of_vectorIs {s : State} {lo hi : Byte} (h : VectorIs s 0xFFFC lo hi) :
    resetCpu s = .next { resetRegisters s with
      pc := addrOf hi lo, runState := .running, busFault := false, returned := .nothing } := by
  obtain ⟨c, hc, hlo, hhi⟩ := h
  have hreadLo : memRead Config.vecReset (resetRegisters s) = .ok lo (resetRegisters s) :=
    memRead_rom_byte (by decide) hc hlo
  have hreadHi : memRead (Config.vecReset + 1#16) (resetRegisters s) = .ok hi (resetRegisters s) :=
    memRead_rom_byte (by decide) hc hhi
  rw [resetCpu, readThen_of_ok hreadLo, readThen_of_ok hreadHi]
  rfl

/-- `reset()` without a cartridge ends in Error (R400). -/
theorem resetCpu_noCart {s : State} (hc : s.cart = none) : ∃ t, resetCpu s = .next t ∧ t.runState = .error := by
  have hread : memRead Config.vecReset (resetRegisters s) = .failed .noCartridge := memRead_noCart (by decide) hc
  rw [resetCpu, readThen_of_failed hread]
  exact ⟨_, rfl, rfl⟩

end Sys2Proof.ResetFamily

/-! SUPPORT. The step of a finished program (70_reset_and_hazards.md R405). -/

namespace Sys2Proof.ResetFamily

open Sys2Proof Sys2Proof.Machine Sys2Proof.Claims

/-- A fetch reads RAM and ROM alone (20_memory.md R66). -/
theorem fetchByte_congr {s t : State} (hram : t.ram = s.ram) (hcart : t.cart = s.cart) (a : Addr) :
    fetchByte a t = fetchByte a s := by
  rcases windowOf_cases a with ⟨_, hw⟩ | ⟨_, _, hw⟩ | ⟨_, _, hw⟩ | ⟨_, _, hw⟩ | ⟨hrom, hw⟩
  · simp only [fetchByte, hw, State.readRam, hram]
  · simp only [fetchByte, hw]
  · simp only [fetchByte, hw]
  · simp only [fetchByte, hw]
  · cases hc : s.cart <;> simp only [fetchByte, hw, mapperRead, hcart, hc, readROM_ok hrom]

theorem fetchBytes_congr {s t : State} (hram : t.ram = s.ram) (hcart : t.cart = s.cart) (n : Nat) (a : Addr) :
    fetchBytes n a t = fetchBytes n a s := by
  induction n generalizing a with
  | zero => rfl
  | succ n ih => simp only [fetchBytes, fetchByte_congr hram hcart, ih]

/-- The bytes at which a finished program stands are those of a JMP to itself (R405). -/
theorem step_finished {s : State} (hidle : Idle s) (hcontrol : s.ControlInvariant) (hfinished : s.Finished) :
    step s = .next { s with returned := .clocks 3 } := by
  obtain ⟨-, -, hpenalty, hstack, hbus⟩ := hcontrol
  obtain ⟨-, hrun, -, -⟩ := id hidle
  obtain ⟨-, hfetch⟩ := hfinished
  have hjump : exec (.jmpAbs s.pc) (beginInstr 3 s) = .next (ExceptionFamily.cleared s) := rfl
  have hclear : ExceptionFamily.cleared s = s := ExceptionFamily.cleared_eq hpenalty hstack hbus
  have hturn : runOne none s = onNext (settle none 3) (exec (.jmpAbs s.pc) (beginInstr 3 s)) :=
    EncodingFamily.runOne_encode (i := .jmpAbs s.pc) hfetch rfl
  rw [MemoryFamily.step_idle hidle, hturn, hjump, hclear, onNext, EncodingFamily.settle_none hbus]
  simp only [hpenalty, hstack, hrun]

end Sys2Proof.ResetFamily

/-! SUPPORT. The host's snapshot and its calls of the mapper, as the statements write them (70_reset_and_hazards.md R404;
49_mapper.md R320 to R326). -/

namespace Sys2Proof.ResetFamily

open Sys2Proof Sys2Proof.Machine Sys2Proof.Claims

theorem hostMapper_of_cart {s : State} {c : Cartridge} (hc : s.cart = some c) (op : Cartridge → Result) :
    hostMapper op s = op c := by
  simp only [hostMapper, hc]

theorem hostMapper_noCart {s : State} (hc : s.cart = none) (op : Cartridge → Result) :
    hostMapper op s = .next (returning (.failed .noCartridge) s) := by
  simp only [hostMapper, hc]

/-- The snapshot's P has bit 5 set and bit 4 clear (10_state.md R22). -/
theorem toByte_and_eq_statusPushed (p : Flags) : p.toByte &&& 0xEF#8 = statusPushed p false := by
  obtain ⟨c, z, i, d, b, v, n⟩ := p
  revert c z i d b v n
  decide

theorem mapperByte_readROM (c : Cartridge) (a : Nat) : mapperByte (c.readROM a) =
    if a < 0x8000 then .failed .illegalArgument
    else if a < 0xC000 then .byte (c.rom.read (a - 0x8000))
    else .byte (c.rom.read ((c.romPages - 1) * 0x4000 + (a - 0xC000))) := by
  split
  · rw [BusFamily.readROM_low ‹_›]
    rfl
  split
  · rw [BusFamily.readROM_first (by omega) ‹_›]
    rfl
  · rw [BusFamily.readROM_last (by omega)]
    rfl

theorem hostReadVROM_of_lt {c : Cartridge} {a : Nat} (h : a < c.vromPages * 0x2000) (s : State) :
    hostReadVROM a c s = .next (returning (.byte (c.vrom.read a)) s) := by
  have hread : c.readVROM a = some (c.vrom.read a) := if_neg (Nat.not_le.mpr h)
  rw [hostReadVROM, hread]

theorem hostReadVROM_of_ge {c : Cartridge} {a : Nat} (h : c.vromPages * 0x2000 ≤ a) (s : State) :
    hostReadVROM a c s = .fault .fatalVrom := by
  rw [hostReadVROM, BusFamily.readVROM_of_ge h]

end Sys2Proof.ResetFamily

/-! The statements about `reset()`, a finished program and the host's operations (70_reset_and_hazards.md). -/

namespace Sys2Proof.ResetFamily

open Sys2Proof Sys2Proof.Machine Sys2Proof.Claims Sys2Proof.ExceptionFamily

/-- Settles O34: the registers, then the two bytes of the vector. -/
theorem resetSetsTheRegistersAndKeepsTheRest : Obligations.ResetSetsTheRegistersAndKeepsTheRest := by
  refine ⟨fun s rest lo hi hrun hcalls hvector hbus => ?_, fun s rest hrun hcalls hc => ?_⟩
  · rw [step_hostCall hrun hcalls, hostCall, resetCpu_of_vectorIs (s := { s with calls := rest }) hvector]
    simp only [resetRegisters, hbus]
  · rw [step_hostCall hrun hcalls]
    exact resetCpu_noCart (s := { s with calls := rest }) hc

/-- Settles O39: the step executes the JMP, and the fetch does not see `returned`. -/
theorem aFinishedProgramStaysFinished : Obligations.AFinishedProgramStaysFinished := by
  refine fun s hidle hcontrol hfinished => ⟨step_finished hidle hcontrol hfinished, hidle, ?_⟩
  obtain ⟨hstate, hfetch⟩ := hfinished
  exact ⟨hstate, (fetchBytes_congr (s := s) (t := { s with returned := .clocks 3 }) rfl rfl 3 s.pc).trans hfetch⟩

/-- Settles O40: a call listed next is the step, and each operation answers as its own rule says. -/
theorem hostOperationsReturnWhatTheBusGives : Obligations.HostOperationsReturnWhatTheBusGives := by
  intro s rest hrun
  have hstep {call : HostCall} (hcalls : s.calls = call :: rest) : step s = hostCall call { s with calls := rest } :=
    step_hostCall hrun hcalls
  have hmapper {c : Cartridge} (hc : s.cart = some c) (op : Cartridge → Result) :
      hostMapper op { s with calls := rest } = op c := hostMapper_of_cart (s := { s with calls := rest }) hc op
  refine ⟨hstep, fun hcalls => ?snapshot, hstep, hstep,
    fun a v t hcalls h => (hstep hcalls).trans (congrArg (hostRead · _) h),
    fun a f hcalls h => (hstep hcalls).trans (congrArg (hostRead · _) h),
    fun a v t hcalls h => (hstep hcalls).trans (congrArg (hostWrite · _) h),
    fun a v f hcalls h => (hstep hcalls).trans (congrArg (hostWrite · _) h),
    fun k hcalls => hstep hcalls, fun k v hcalls => hstep hcalls, hstep, fun c hcalls => hstep hcalls,
    fun a hcalls h => (hstep hcalls).trans (congrArg (hostRead · _) h),
    fun a v t hcalls h => ?readVideoMem,
    fun a f hcalls h => (hstep hcalls).trans (congrArg (hostRead · _) h),
    fun a hcalls h => (hstep hcalls).trans (congrArg (hostRead · _) h),
    fun a v t hcalls h => (hstep hcalls).trans (congrArg (hostWrite · _) h),
    fun a v f hcalls h => (hstep hcalls).trans (congrArg (hostWrite · _) h),
    fun m hcalls => hstep hcalls,
    fun a c hcalls hc => ?readROM,
    fun a c hcalls hc => (hstep hcalls).trans (hmapper hc _),
    fun a v c hcalls hc => (hstep hcalls).trans (hmapper hc _),
    fun a c hcalls hc ha => (hstep hcalls).trans ((hmapper hc _).trans (hostReadVROM_of_lt ha _)),
    fun a c hcalls hc ha => (hstep hcalls).trans ((hmapper hc _).trans (hostReadVROM_of_ge ha _)),
    fun a buffer c hcalls hc => ⟨Config.freeBit s.draws, (hstep hcalls).trans (hmapper hc _)⟩,
    fun call a v k buffer hcalls hc hcall => ?noCartridge⟩
  case snapshot =>
    rw [← toByte_and_eq_statusPushed]
    exact hstep hcalls
  case readVideoMem =>
    obtain rfl := vidRead_ok h
    exact (hstep hcalls).trans (congrArg (hostRead · _) h)
  case readROM =>
    rw [← mapperByte_readROM]
    exact (hstep hcalls).trans (hmapper hc _)
  case noCartridge =>
    simp only [List.mem_cons, List.not_mem_nil, or_false] at hcall
    rw [hstep hcalls]
    rcases hcall with rfl | rfl | rfl | rfl | rfl <;> exact hostMapper_noCart (s := { s with calls := rest }) hc _

end Sys2Proof.ResetFamily
